-- ==== Sys2Proof/Word.lean ====
section
/-!
DEFINITION. The word types of the block: bytes (R29: every value moved is a u8) and the 32-bit transaction word (R39).
-/

namespace Sys2Proof

/-- The `u8` of the spec: every register value and every data value (00_scope section 5). -/
abbrev Byte := BitVec 8

/-- The canonical transaction word `TW[31:0]` of R39. -/
abbrev TransactionWord := BitVec 32

end Sys2Proof
end

