-- ==== Sys2Proof/Config.lean ====
section
/-!
DEFINITION. What an instance fixes (R5), the names the rest of the model speaks in (spaces, register stems, tiers, baseline calls,
notices), and the free values: three constants with no body, which nothing in Lean can evaluate.
-/

namespace Sys2Proof

/-- VARIANT (R5, R104, R105): BASE has tier 1 only, CAPABLE has both tiers. -/
inductive Variant where
  | base
  | capable
  deriving DecidableEq, Repr

/-- The two register spaces (R26). -/
inductive Space where
  | gc
  | crtc
  deriving DecidableEq, Repr

/-- The two tiers, one lock gate and one view switch each (R11, R12, R63). -/
inductive Tier where
  | one
  | two
  deriving DecidableEq, Repr

/-- The mnemonic stems of the seven registers of tier 1's claimed range (R33). -/
inductive GcReg where
  | aoffa
  | aoffb
  | memsize
  | vsel
  | crtclock
  | vctl
  | status1
  deriving DecidableEq, Repr

/-- The mnemonic stems of the twenty-three claimed offsets of tier 2 (R33): the status register, the scratch register and
twenty-one reserved offsets, each under the name the opcode table gives it. -/
inductive CrtcReg where
  | status2
  | rsvd2A
  | scratch
  | rsvd2C
  | rsvd2D
  | rsvd2E
  | rsvd2F
  | rsvd30
  | rsvd31
  | rsvd32
  | rsvd33
  | rsvd34
  | rsvd35
  | rsvd36
  | rsvd37
  | rsvd38
  | rsvd39
  | rsvd3A
  | rsvd3B
  | rsvd3C
  | rsvd3D
  | rsvd3E
  | rsvd3F
  deriving DecidableEq, Repr

/-- A register named in a notice of the diagnostic sink (R73). -/
inductive RegId where
  | gc (r : GcReg)
  | crtc (r : CrtcReg)
  deriving DecidableEq, Repr

/-- Which baseline the instance is layered over: one of which nothing is assumed (R6), or the reference baseline of R138. -/
inductive BaselineKind where
  | oracle
  | reference
  deriving DecidableEq, Repr

/-- The OPEN parameters of R5. `gcMap` and `crtcMap` are ADDRMAP: the register at each claimed offset, in ascending order. -/
structure Params where
  variant    : Variant
  offsetBits : Nat
  aoffbMask  : Byte
  gcMap      : Vector GcReg 7
  crtcMap    : Vector CrtcReg 23
  baseline   : BaselineKind
  deriving DecidableEq, Repr

/-- One call of a baseline primitive (R6), as it stands in the observation of a run (R136). Every memory call is of one byte
(R29), so the primitive's size argument, always 1, is not written. -/
inductive BaselineCall where
  | memRead (ea : Nat)
  | memWrite (ea : Nat) (data : Byte)
  | regRead (space : Space) (addr : Byte)
  | regWrite (space : Space) (addr : Byte) (data : Byte)
  deriving DecidableEq, Repr

/-- The four event kinds of the diagnostic sink (R73). -/
inductive Notice where
  | lockedRead (tier : Tier) (addr : Byte)
  | lockedWrite (tier : Tier) (addr : Byte) (data : Byte)
  | regWrite (reg : RegId) (data : Byte)
  | gateTransition (tier : Tier) (unlocked : Bool)
  deriving DecidableEq, Repr

/-- FREE VALUE (R6, U3, U8; log 4): what `MemRead(ea, 1)` returns on a baseline of which nothing is assumed, given the calls made
to the baseline before it and the CRTC-lock byte in force at the read, which the block exposes to it (R18). That the baseline sees the
byte at a read only, and not the byte in force at each earlier call, is the model's choice (log 27). -/
opaque Config.memRead (calls : List BaselineCall) (crtcLock : Byte) (ea : Nat) : Byte

/-- FREE VALUE (R6; log 4): what `BaseRegRead(space, addr)` returns on a baseline of which nothing is assumed, given the same; when the
baseline sees the CRTC-lock byte is the model's choice (log 27). -/
opaque Config.baseRegRead (calls : List BaselineCall) (crtcLock : Byte) (space : Space) (addr : Byte) : Byte

/-- FREE VALUE (R73, U9, U10; log 9): whether the diagnostic sink takes the `k`-th notice offered to it. -/
opaque Config.sinkTakes (k : Nat) (n : Notice) : Bool

end Sys2Proof
end

