-- ==== Sys2Proof/Syntax.lean ====
section
/-!
DEFINITION. The operations of the block: one constructor for each of the 67 rows of spec/opcode_table.json (R43), in the table's
order. A write carries its data byte, a delegated access its offset, a memory access its window offset; a register row carries no
address, because the address map decides it (R33). The data byte of a read is ignored by the decoder (D22) and is no operand.
-/

namespace Sys2Proof

/-- A bus operation, decoded to its row of the operation map (R43). `rr…` is `RR.…`, `rw…` is `RW.…`. -/
inductive Instr where
  | rrAoffa
  | rwAoffa (data : Byte)
  | rrAoffb
  | rwAoffb (data : Byte)
  | rrMemsize
  | rwMemsize (data : Byte)
  | rrVsel
  | rwVsel (data : Byte)
  | rrCrtclock
  | rwCrtclock (data : Byte)
  | rrVctl
  | rwVctl (data : Byte)
  | rrStatus1
  | rwStatus1 (data : Byte)
  | rrStatus2
  | rwStatus2 (data : Byte)
  | rrRsvd2A
  | rwRsvd2A (data : Byte)
  | rrScratch
  | rwScratch (data : Byte)
  | rrRsvd2C
  | rwRsvd2C (data : Byte)
  | rrRsvd2D
  | rwRsvd2D (data : Byte)
  | rrRsvd2E
  | rwRsvd2E (data : Byte)
  | rrRsvd2F
  | rwRsvd2F (data : Byte)
  | rrRsvd30
  | rwRsvd30 (data : Byte)
  | rrRsvd31
  | rwRsvd31 (data : Byte)
  | rrRsvd32
  | rwRsvd32 (data : Byte)
  | rrRsvd33
  | rwRsvd33 (data : Byte)
  | rrRsvd34
  | rwRsvd34 (data : Byte)
  | rrRsvd35
  | rwRsvd35 (data : Byte)
  | rrRsvd36
  | rwRsvd36 (data : Byte)
  | rrRsvd37
  | rwRsvd37 (data : Byte)
  | rrRsvd38
  | rwRsvd38 (data : Byte)
  | rrRsvd39
  | rwRsvd39 (data : Byte)
  | rrRsvd3A
  | rwRsvd3A (data : Byte)
  | rrRsvd3B
  | rwRsvd3B (data : Byte)
  | rrRsvd3C
  | rwRsvd3C (data : Byte)
  | rrRsvd3D
  | rwRsvd3D (data : Byte)
  | rrRsvd3E
  | rwRsvd3E (data : Byte)
  | rrRsvd3F
  | rwRsvd3F (data : Byte)
  | rrGcBase (addr : Byte)
  | rwGcBase (addr : Byte) (data : Byte)
  | rrCrtcBase (addr : Byte)
  | rwCrtcBase (addr : Byte) (data : Byte)
  | mr (offset : Nat)
  | mw (offset : Nat) (data : Byte)
  | reset
  deriving DecidableEq, Repr

end Sys2Proof
end

