-- ==== Sys2Proof/Machine/AddressMap.lean ====
section
/-!
DEFINITION. The address map (R32, R33) and the parameters' defaults (R5): which offsets the block claims, which register stands at a
claimed offset, and at which offset a register stands.
-/

namespace Sys2Proof

/-- The first offset tier 1 claims in GC (R32). -/
def gcFirst : Nat := 0x09

/-- The last offset tier 1 claims in GC (R32). -/
def gcLast : Nat := 0x0F

/-- The first offset tier 2 claims in CRTC, CAPABLE only (R32). -/
def crtcFirst : Nat := 0x29

/-- The last offset tier 2 claims in CRTC, CAPABLE only (R32). -/
def crtcLast : Nat := 0x3F

/-- The offsets the block answers itself (R32): GC 0x09 to 0x0F in both variants, CRTC 0x29 to 0x3F in CAPABLE, nothing else. -/
def claims (v : Variant) (space : Space) (addr : Byte) : Bool :=
  match space with
  | .gc => decide (gcFirst ≤ addr.toNat) && decide (addr.toNat ≤ gcLast)
  | .crtc =>
    match v with
    | .base => false
    | .capable => decide (crtcFirst ≤ addr.toNat) && decide (addr.toNat ≤ crtcLast)

/-- ADDRMAP of tier 1 as R33 decides it (D1; log 2): the registers at GC 0x09 to 0x0F. -/
def gcMapDefault : Vector GcReg 7 :=
  #v[.aoffa, .aoffb, .memsize, .vsel, .crtclock, .vctl, .status1]

/-- ADDRMAP of tier 2 as R33 decides it (D3; log 2): the registers at CRTC 0x29 to 0x3F. -/
def crtcMapDefault : Vector CrtcReg 23 :=
  #v[.status2, .rsvd2A, .scratch, .rsvd2C, .rsvd2D, .rsvd2E, .rsvd2F, .rsvd30, .rsvd31, .rsvd32, .rsvd33, .rsvd34,
     .rsvd35, .rsvd36, .rsvd37, .rsvd38, .rsvd39, .rsvd3A, .rsvd3B, .rsvd3C, .rsvd3D, .rsvd3E, .rsvd3F]

/-- The register the map puts at a claimed GC offset (R33). The fallback is never reached from a claimed offset. -/
def Params.gcAt (p : Params) (addr : Byte) : GcReg := p.gcMap.toList.getD (addr.toNat - gcFirst) .status1

/-- The register the map puts at a claimed CRTC offset (R33). The fallback is never reached from a claimed offset. -/
def Params.crtcAt (p : Params) (addr : Byte) : CrtcReg := p.crtcMap.toList.getD (addr.toNat - crtcFirst) .status2

/-- The GC offset at which a tier-1 register stands (R33). -/
def Params.gcOffset (p : Params) (r : GcReg) : Byte := BitVec.ofNat 8 (gcFirst + p.gcMap.toList.idxOf r)

/-- The CRTC offset at which a tier-2 register stands (R33). -/
def Params.crtcOffset (p : Params) (r : CrtcReg) : Byte := BitVec.ofNat 8 (crtcFirst + p.crtcMap.toList.idxOf r)

/-- The instance the model starts with (log 1): CAPABLE, and the spec's defaults of R5 for `OFFSET_BITS`, `AOFFB_MASK` and
`ADDRMAP`; nothing is assumed of the baseline (R6). -/
def Params.default : Params where
  variant := .capable
  offsetBits := 16
  aoffbMask := 0xFF
  gcMap := gcMapDefault
  crtcMap := crtcMapDefault
  baseline := .oracle

/-- Every tier-1 register. -/
def GcReg.all : List GcReg := [.aoffa, .aoffb, .memsize, .vsel, .crtclock, .vctl, .status1]

/-- Every tier-2 register. -/
def CrtcReg.all : List CrtcReg :=
  [.status2, .rsvd2A, .scratch, .rsvd2C, .rsvd2D, .rsvd2E, .rsvd2F, .rsvd30, .rsvd31, .rsvd32, .rsvd33, .rsvd34,
   .rsvd35, .rsvd36, .rsvd37, .rsvd38, .rsvd39, .rsvd3A, .rsvd3B, .rsvd3C, .rsvd3D, .rsvd3E, .rsvd3F]

/-- The offsets of a guarded range that have no real handler (R44). -/
def CrtcReg.reserved (r : CrtcReg) : Bool :=
  match r with
  | .status2 => false
  | .scratch => false
  | _ => true

/-- The parameters an instance may have: the values R5 allows, a map that puts every register at one offset (log 3), and an
`OFFSET_BITS` the transaction word can carry (R39; log 18). -/
def Params.wf (p : Params) : Bool :=
  decide (p.offsetBits ≤ 20) &&
  (p.aoffbMask == 0xFF || p.aoffbMask == 0x7F) &&
  GcReg.all.all (fun r => p.gcMap.toList.contains r) &&
  CrtcReg.all.all (fun r => p.crtcMap.toList.contains r)

end Sys2Proof
end

