-- ==== Sys2Proof/WellFormed.lean ====
section
/-!
DEFINITION. Which terms of Instr are operations of a given instance: a tier-2 row exists in CAPABLE only (R43, column variant), a
delegated row's offset is one the block does not claim (R45), and a window offset has OFFSET_BITS bits (R38).
-/

namespace Sys2Proof

/-- The operation exists on the instance `p` (R38, R43, R45). -/
def Instr.wf (p : Params) (i : Instr) : Bool :=
  match i with
  | .rrAoffa | .rwAoffa _ | .rrAoffb | .rwAoffb _ | .rrMemsize | .rwMemsize _ | .rrVsel | .rwVsel _
  | .rrCrtclock | .rwCrtclock _ | .rrVctl | .rwVctl _ | .rrStatus1 | .rwStatus1 _ | .reset => true
  | .rrStatus2 | .rwStatus2 _ | .rrScratch | .rwScratch _ | .rrRsvd2A | .rwRsvd2A _
  | .rrRsvd2C | .rwRsvd2C _ | .rrRsvd2D | .rwRsvd2D _ | .rrRsvd2E | .rwRsvd2E _ | .rrRsvd2F | .rwRsvd2F _
  | .rrRsvd30 | .rwRsvd30 _ | .rrRsvd31 | .rwRsvd31 _ | .rrRsvd32 | .rwRsvd32 _ | .rrRsvd33 | .rwRsvd33 _
  | .rrRsvd34 | .rwRsvd34 _ | .rrRsvd35 | .rwRsvd35 _ | .rrRsvd36 | .rwRsvd36 _ | .rrRsvd37 | .rwRsvd37 _
  | .rrRsvd38 | .rwRsvd38 _ | .rrRsvd39 | .rwRsvd39 _ | .rrRsvd3A | .rwRsvd3A _ | .rrRsvd3B | .rwRsvd3B _
  | .rrRsvd3C | .rwRsvd3C _ | .rrRsvd3D | .rwRsvd3D _ | .rrRsvd3E | .rwRsvd3E _ | .rrRsvd3F | .rwRsvd3F _ =>
    p.variant == .capable
  | .rrGcBase addr | .rwGcBase addr _ => !claims p.variant .gc addr
  | .rrCrtcBase addr | .rwCrtcBase addr _ => !claims p.variant .crtc addr
  | .mr offset | .mw offset _ => decide (offset < 2 ^ p.offsetBits)

end Sys2Proof
end

