-- ==== Sys2Proof/Decode.lean ====
section
/-!
DEFINITION. Decoding and encoding. A transaction word is parsed into the record of R38 by the layout of R39, refused by name where
it is not an operation (R40), and the record is mapped to its row of the operation map by the procedure of R42. The encoder goes
the other way, by the same layout and the same address map.
-/

namespace Sys2Proof

/-- Why a transaction word is not an operation (R40). It is the word decoder's refusal, and no behaviour of the hardware (U13). -/
inductive DecodeError where
  /-- KIND is 5 to 15. -/
  | unknownKind
  /-- SPACE is 2 to 15 in an RR or RW. -/
  | unknownSpace
  /-- `TW[23:16]` is not zero in an RR or RW. -/
  | nonzeroReservedBits
  /-- `TW[27:0]` is not zero in a RESET. -/
  | nonzeroResetBits
  /-- The offset of an MR or MW does not fit in OFFSET_BITS. -/
  | offsetTooWide
  deriving DecidableEq, Repr

/-- The record of an operation (R38). -/
inductive Transaction where
  | reset
  | rr (space : Space) (addr : Byte)
  | rw (space : Space) (addr : Byte) (data : Byte)
  | mr (offset : Nat)
  | mw (offset : Nat) (data : Byte)
  deriving DecidableEq, Repr

/-- `TW[31:28]`, the operation kind (R39). -/
def kindField (w : TransactionWord) : Nat := (w.extractLsb' 28 4).toNat

/-- `TW[27:24]`, the register space (R39). -/
def spaceField (w : TransactionWord) : Nat := (w.extractLsb' 24 4).toNat

/-- `TW[23:16]`, zero in a register access (R39). -/
def reservedField (w : TransactionWord) : Nat := (w.extractLsb' 16 8).toNat

/-- `TW[15:8]`, the register offset (R39). -/
def addrField (w : TransactionWord) : Byte := w.extractLsb' 8 8

/-- `TW[7:0]`, the data byte (R39). -/
def dataField (w : TransactionWord) : Byte := w.extractLsb' 0 8

/-- `TW[27:8]`, the window offset (R39). -/
def offsetField (w : TransactionWord) : Nat := (w.extractLsb' 8 20).toNat

/-- `TW[27:0]`, zero in a RESET (R39). -/
def resetField (w : TransactionWord) : Nat := (w.extractLsb' 0 28).toNat

/-- The space a register access names, or the refusal of R40. -/
def parseSpace (w : TransactionWord) : Except DecodeError Space :=
  if reservedField w ≠ 0 then .error .nonzeroReservedBits
  else if spaceField w = 0 then .ok .gc
  else if spaceField w = 1 then .ok .crtc
  else .error .unknownSpace

/-- The window offset a memory access names, or the refusal of R40. -/
def parseOffset (offsetBits : Nat) (w : TransactionWord) : Except DecodeError Nat :=
  if offsetField w < 2 ^ offsetBits then .ok (offsetField w) else .error .offsetTooWide

/-- The record a transaction word stands for (R39), or the refusal of R40. -/
def parseWord (offsetBits : Nat) (w : TransactionWord) : Except DecodeError Transaction :=
  if kindField w = 0 then
    if resetField w = 0 then .ok .reset else .error .nonzeroResetBits
  else if kindField w = 1 then
    match parseSpace w with
    | .ok space => .ok (.rr space (addrField w))
    | .error e => .error e
  else if kindField w = 2 then
    match parseSpace w with
    | .ok space => .ok (.rw space (addrField w) (dataField w))
    | .error e => .error e
  else if kindField w = 3 then
    match parseOffset offsetBits w with
    | .ok offset => .ok (.mr offset)
    | .error e => .error e
  else if kindField w = 4 then
    match parseOffset offsetBits w with
    | .ok offset => .ok (.mw offset (dataField w))
    | .error e => .error e
  else .error .unknownKind

/-- The row `RR.<stem>` of a tier-1 register (R43). -/
def GcReg.readInstr (r : GcReg) : Instr :=
  match r with
  | .aoffa => .rrAoffa
  | .aoffb => .rrAoffb
  | .memsize => .rrMemsize
  | .vsel => .rrVsel
  | .crtclock => .rrCrtclock
  | .vctl => .rrVctl
  | .status1 => .rrStatus1

/-- The row `RW.<stem>` of a tier-1 register (R43). -/
def GcReg.writeInstr (r : GcReg) (data : Byte) : Instr :=
  match r with
  | .aoffa => .rwAoffa data
  | .aoffb => .rwAoffb data
  | .memsize => .rwMemsize data
  | .vsel => .rwVsel data
  | .crtclock => .rwCrtclock data
  | .vctl => .rwVctl data
  | .status1 => .rwStatus1 data

/-- The row `RR.<stem>` of a tier-2 register (R43). -/
def CrtcReg.readInstr (r : CrtcReg) : Instr :=
  match r with
  | .status2 => .rrStatus2
  | .rsvd2A => .rrRsvd2A
  | .scratch => .rrScratch
  | .rsvd2C => .rrRsvd2C
  | .rsvd2D => .rrRsvd2D
  | .rsvd2E => .rrRsvd2E
  | .rsvd2F => .rrRsvd2F
  | .rsvd30 => .rrRsvd30
  | .rsvd31 => .rrRsvd31
  | .rsvd32 => .rrRsvd32
  | .rsvd33 => .rrRsvd33
  | .rsvd34 => .rrRsvd34
  | .rsvd35 => .rrRsvd35
  | .rsvd36 => .rrRsvd36
  | .rsvd37 => .rrRsvd37
  | .rsvd38 => .rrRsvd38
  | .rsvd39 => .rrRsvd39
  | .rsvd3A => .rrRsvd3A
  | .rsvd3B => .rrRsvd3B
  | .rsvd3C => .rrRsvd3C
  | .rsvd3D => .rrRsvd3D
  | .rsvd3E => .rrRsvd3E
  | .rsvd3F => .rrRsvd3F

/-- The row `RW.<stem>` of a tier-2 register (R43). -/
def CrtcReg.writeInstr (r : CrtcReg) (data : Byte) : Instr :=
  match r with
  | .status2 => .rwStatus2 data
  | .rsvd2A => .rwRsvd2A data
  | .scratch => .rwScratch data
  | .rsvd2C => .rwRsvd2C data
  | .rsvd2D => .rwRsvd2D data
  | .rsvd2E => .rwRsvd2E data
  | .rsvd2F => .rwRsvd2F data
  | .rsvd30 => .rwRsvd30 data
  | .rsvd31 => .rwRsvd31 data
  | .rsvd32 => .rwRsvd32 data
  | .rsvd33 => .rwRsvd33 data
  | .rsvd34 => .rwRsvd34 data
  | .rsvd35 => .rwRsvd35 data
  | .rsvd36 => .rwRsvd36 data
  | .rsvd37 => .rwRsvd37 data
  | .rsvd38 => .rwRsvd38 data
  | .rsvd39 => .rwRsvd39 data
  | .rsvd3A => .rwRsvd3A data
  | .rsvd3B => .rwRsvd3B data
  | .rsvd3C => .rwRsvd3C data
  | .rsvd3D => .rwRsvd3D data
  | .rsvd3E => .rwRsvd3E data
  | .rsvd3F => .rwRsvd3F data

/-- The row of a register read (R42, cases 3 to 7): claimed before delegated. -/
def classifyRead (p : Params) (space : Space) (addr : Byte) : Instr :=
  match space with
  | .gc => if claims p.variant .gc addr then (p.gcAt addr).readInstr else .rrGcBase addr
  | .crtc => if claims p.variant .crtc addr then (p.crtcAt addr).readInstr else .rrCrtcBase addr

/-- The row of a register write (R42, cases 3 to 7): claimed before delegated. -/
def classifyWrite (p : Params) (space : Space) (addr : Byte) (data : Byte) : Instr :=
  match space with
  | .gc => if claims p.variant .gc addr then (p.gcAt addr).writeInstr data else .rwGcBase addr data
  | .crtc => if claims p.variant .crtc addr then (p.crtcAt addr).writeInstr data else .rwCrtcBase addr data

/-- The row of an operation (R42). What the gates add to the decoding (R47) is in the meaning of the row. -/
def classify (p : Params) (t : Transaction) : Instr :=
  match t with
  | .reset => .reset
  | .rr space addr => classifyRead p space addr
  | .rw space addr data => classifyWrite p space addr data
  | .mr offset => .mr offset
  | .mw offset data => .mw offset data

/-- The operation a transaction word stands for on the instance `p`, or why it is none (R40, R42, R43). -/
def decode (p : Params) (w : TransactionWord) : Except DecodeError Instr :=
  match parseWord p.offsetBits w with
  | .ok t => .ok (classify p t)
  | .error e => .error e

/-- `TW[27:24]` of a register space (R39). -/
def spaceCode (space : Space) : BitVec 4 :=
  match space with
  | .gc => 0
  | .crtc => 1

/-- The word of a register access (R39). -/
def regWord (kind : BitVec 4) (space : Space) (addr data : Byte) : TransactionWord :=
  kind ++ spaceCode space ++ (0 : BitVec 8) ++ addr ++ data

/-- The word of a memory access (R39); the word form covers offsets below 2^20. -/
def memWord (kind : BitVec 4) (offset : Nat) (data : Byte) : TransactionWord :=
  kind ++ BitVec.ofNat 20 offset ++ data

/-- The word of an operation's record (R39); the ignored data byte of a read is written as 0. -/
def Transaction.word (t : Transaction) : TransactionWord :=
  match t with
  | .reset => 0
  | .rr space addr => regWord 1 space addr 0
  | .rw space addr data => regWord 2 space addr data
  | .mr offset => memWord 3 offset 0
  | .mw offset data => memWord 4 offset data

/-- The record of an operation (R38), its address taken from the address map. -/
def Instr.transaction (p : Params) (i : Instr) : Transaction :=
  match i with
  | .rrAoffa => .rr .gc (p.gcOffset .aoffa)
  | .rwAoffa data => .rw .gc (p.gcOffset .aoffa) data
  | .rrAoffb => .rr .gc (p.gcOffset .aoffb)
  | .rwAoffb data => .rw .gc (p.gcOffset .aoffb) data
  | .rrMemsize => .rr .gc (p.gcOffset .memsize)
  | .rwMemsize data => .rw .gc (p.gcOffset .memsize) data
  | .rrVsel => .rr .gc (p.gcOffset .vsel)
  | .rwVsel data => .rw .gc (p.gcOffset .vsel) data
  | .rrCrtclock => .rr .gc (p.gcOffset .crtclock)
  | .rwCrtclock data => .rw .gc (p.gcOffset .crtclock) data
  | .rrVctl => .rr .gc (p.gcOffset .vctl)
  | .rwVctl data => .rw .gc (p.gcOffset .vctl) data
  | .rrStatus1 => .rr .gc (p.gcOffset .status1)
  | .rwStatus1 data => .rw .gc (p.gcOffset .status1) data
  | .rrStatus2 => .rr .crtc (p.crtcOffset .status2)
  | .rwStatus2 data => .rw .crtc (p.crtcOffset .status2) data
  | .rrRsvd2A => .rr .crtc (p.crtcOffset .rsvd2A)
  | .rwRsvd2A data => .rw .crtc (p.crtcOffset .rsvd2A) data
  | .rrScratch => .rr .crtc (p.crtcOffset .scratch)
  | .rwScratch data => .rw .crtc (p.crtcOffset .scratch) data
  | .rrRsvd2C => .rr .crtc (p.crtcOffset .rsvd2C)
  | .rwRsvd2C data => .rw .crtc (p.crtcOffset .rsvd2C) data
  | .rrRsvd2D => .rr .crtc (p.crtcOffset .rsvd2D)
  | .rwRsvd2D data => .rw .crtc (p.crtcOffset .rsvd2D) data
  | .rrRsvd2E => .rr .crtc (p.crtcOffset .rsvd2E)
  | .rwRsvd2E data => .rw .crtc (p.crtcOffset .rsvd2E) data
  | .rrRsvd2F => .rr .crtc (p.crtcOffset .rsvd2F)
  | .rwRsvd2F data => .rw .crtc (p.crtcOffset .rsvd2F) data
  | .rrRsvd30 => .rr .crtc (p.crtcOffset .rsvd30)
  | .rwRsvd30 data => .rw .crtc (p.crtcOffset .rsvd30) data
  | .rrRsvd31 => .rr .crtc (p.crtcOffset .rsvd31)
  | .rwRsvd31 data => .rw .crtc (p.crtcOffset .rsvd31) data
  | .rrRsvd32 => .rr .crtc (p.crtcOffset .rsvd32)
  | .rwRsvd32 data => .rw .crtc (p.crtcOffset .rsvd32) data
  | .rrRsvd33 => .rr .crtc (p.crtcOffset .rsvd33)
  | .rwRsvd33 data => .rw .crtc (p.crtcOffset .rsvd33) data
  | .rrRsvd34 => .rr .crtc (p.crtcOffset .rsvd34)
  | .rwRsvd34 data => .rw .crtc (p.crtcOffset .rsvd34) data
  | .rrRsvd35 => .rr .crtc (p.crtcOffset .rsvd35)
  | .rwRsvd35 data => .rw .crtc (p.crtcOffset .rsvd35) data
  | .rrRsvd36 => .rr .crtc (p.crtcOffset .rsvd36)
  | .rwRsvd36 data => .rw .crtc (p.crtcOffset .rsvd36) data
  | .rrRsvd37 => .rr .crtc (p.crtcOffset .rsvd37)
  | .rwRsvd37 data => .rw .crtc (p.crtcOffset .rsvd37) data
  | .rrRsvd38 => .rr .crtc (p.crtcOffset .rsvd38)
  | .rwRsvd38 data => .rw .crtc (p.crtcOffset .rsvd38) data
  | .rrRsvd39 => .rr .crtc (p.crtcOffset .rsvd39)
  | .rwRsvd39 data => .rw .crtc (p.crtcOffset .rsvd39) data
  | .rrRsvd3A => .rr .crtc (p.crtcOffset .rsvd3A)
  | .rwRsvd3A data => .rw .crtc (p.crtcOffset .rsvd3A) data
  | .rrRsvd3B => .rr .crtc (p.crtcOffset .rsvd3B)
  | .rwRsvd3B data => .rw .crtc (p.crtcOffset .rsvd3B) data
  | .rrRsvd3C => .rr .crtc (p.crtcOffset .rsvd3C)
  | .rwRsvd3C data => .rw .crtc (p.crtcOffset .rsvd3C) data
  | .rrRsvd3D => .rr .crtc (p.crtcOffset .rsvd3D)
  | .rwRsvd3D data => .rw .crtc (p.crtcOffset .rsvd3D) data
  | .rrRsvd3E => .rr .crtc (p.crtcOffset .rsvd3E)
  | .rwRsvd3E data => .rw .crtc (p.crtcOffset .rsvd3E) data
  | .rrRsvd3F => .rr .crtc (p.crtcOffset .rsvd3F)
  | .rwRsvd3F data => .rw .crtc (p.crtcOffset .rsvd3F) data
  | .rrGcBase addr => .rr .gc addr
  | .rwGcBase addr data => .rw .gc addr data
  | .rrCrtcBase addr => .rr .crtc addr
  | .rwCrtcBase addr data => .rw .crtc addr data
  | .mr offset => .mr offset
  | .mw offset data => .mw offset data
  | .reset => .reset

/-- The transaction word of an operation on the instance `p` (R39). -/
def encode (p : Params) (i : Instr) : TransactionWord := (i.transaction p).word

/-- What the decoder reads from an instruction whose bits are `w` (log 23): the low `nbits` bits of `w` are the transaction word, the
bits above them are 0, and bits beyond the word's 32 belong to no operation. -/
def decodeTableWord (nbits w : Nat) : Option Instr :=
  if w % 2 ^ nbits < 2 ^ 32 then
    match decode Params.default (BitVec.ofNat 32 (w % 2 ^ nbits)) with
    | .ok i => some i
    | .error _ => none
  else none

end Sys2Proof
end

