-- ==== Sys2Proof/Machine/Block.lean ====
section
/-!
DEFINITION. The ten fields of R10 as one record, and the values RESET gives them (R25).
-/

namespace Sys2Proof.Machine

/-- The state of the block (R10: "exactly the ten fields"). GATE2, T2SB and SCRATCH exist in CAPABLE only; in BASE they are there,
nothing but RESET writes them, and nothing reads them (log 12). -/
structure Block where
  /-- GATE1, the lock gate of tier 1: true is unlocked (R11). -/
  gate1    : Bool
  /-- GATE2, the lock gate of tier 2 (R12). -/
  gate2    : Bool
  /-- BANK, the bank index (R14). -/
  bank     : BitVec 7
  /-- AOFFB, address-offset B (R15). -/
  aoffb    : Byte
  /-- MEMSIZE, memory-size/mode, all eight bits stored (R16). -/
  memsize  : Byte
  /-- VSEL, video-select (R17). -/
  vsel     : Byte
  /-- CRTCLOCK, the CRTC-lock byte (R18). -/
  crtclock : Byte
  /-- VCTL, video-control; bit 0 is WindowEnable (R19). -/
  vctl     : Byte
  /-- T2SB, the scratch bits of the tier-2 status register, in place at bits 6 to 4 (R20; log 14). -/
  t2sb     : Byte
  /-- SCRATCH, the tier-2 scratch register (R21). -/
  scratch  : Byte
  deriving DecidableEq, Repr

/-- The block after RESET (R25; log 10 for the values the source gives only as "mostly zero"). -/
def blockAfterReset : Block where
  gate1 := false
  gate2 := false
  bank := 0
  aoffb := 0x00
  memsize := 0x00
  vsel := 0x00
  crtclock := 0x00
  vctl := 0x00
  t2sb := 0x00
  scratch := 0x00

end Sys2Proof.Machine
end

