-- ==== Sys2Proof/Machine/Memory.lean ====
section
/-!
DEFINITION. A byte store as plain data: a list of (address, byte) cells, addresses strictly rising, no cell equal to what an
unlisted address reads as. It holds the reference baseline's array and its register maps (R138; log 5).
-/

namespace Sys2Proof.Machine

/-- A byte store: the cells that differ from an unlisted address. -/
abbrev Memory := List Host.Cell

/-- What an unlisted address reads as (log 5): the reference baseline's registers are "initially 0x00" (R138), and the spec's
programs start from a "reference memory all 0x00" (95_test_vectors P2). -/
def unlistedByte : Byte := 0x00

/-- The byte at an address. -/
def Memory.read (m : Memory) (a : Nat) : Byte :=
  match m with
  | [] => unlistedByte
  | (b, v) :: rest => if a = b then v else Memory.read rest a

/-- Put a cell in front of a store, unless it says what an unlisted address reads as anyway. -/
def Memory.consCell (a : Nat) (v : Byte) (m : Memory) : Memory :=
  if v = unlistedByte then m else (a, v) :: m

/-- Write a byte at an address, keeping the canonical form. -/
def Memory.write (m : Memory) (a : Nat) (v : Byte) : Memory :=
  match m with
  | [] => Memory.consCell a v []
  | (b, u) :: rest =>
    if a < b then Memory.consCell a v ((b, u) :: rest)
    else if a = b then Memory.consCell a v rest
    else (b, u) :: Memory.write rest a v

/-- Every cell lies above the address `lo`, the addresses rise strictly, and no cell reads as an unlisted address does. -/
def Memory.wfAbove (lo : Nat) (m : Memory) : Bool :=
  match m with
  | [] => true
  | (b, v) :: rest => decide (lo ≤ b) && decide (v ≠ unlistedByte) && Memory.wfAbove (b + 1) rest

/-- The canonical form: equal stores are equal lists. -/
def Memory.wf (m : Memory) : Bool := Memory.wfAbove 0 m

end Sys2Proof.Machine
end

