-- ==== Sys2Proof/Machine/State.lean ====
section
/-!
DEFINITION. The state of the machine: the block's ten fields (R10), the instance's parameters (R5), what a run is observed by
(R136), the bytes handed to the baseline (R138), and the operations the bus has yet to deliver (R24). Plain data throughout.
-/

namespace Sys2Proof.Machine

/-- The faults of the block: none. "There are no recoverable-error or fatal-error conditions in this core" (R46, R110), so a model's
step "has no fault outcome" (R9). The type has no constructor, so no meaning can end in a fault. -/
inductive Fault where
  deriving DecidableEq, Repr

/-- Why the model stops without performing an operation. -/
inductive Refusal where
  /-- An operation with no meaning yet, named as in the opcode table. Raised by an arm of `exec` alone; no arm raises it now. Safe. -/
  | notModelled (mnemonic : String)
  /-- The word at the head of `pending` is not an operation (R40), so it describes nothing the block can receive. Raised by `step`.
  Safe: the hardware has no such input. -/
  | notAnOperation (why : DecodeError)
  /-- No operation is pending: the run has ended (R136), and the block never steps on its own (R8). Raised by `step`. Safe. -/
  | noOperationPending
  deriving DecidableEq, Repr

/-- The machine. The first field is the state of the spec; the second is configuration; the others are the model's own. -/
structure State where
  /-- The ten fields of R10. -/
  block    : Block
  /-- The instance's parameters (R5), never written by a step (R109; log 1). -/
  params   : Params
  /-- The byte last handed to `MemWrite` at each backing-store address; the array of the reference baseline (R138; log 5). -/
  mem      : Memory
  /-- The byte last handed to `BaseRegWrite(GC, ·)` at each offset; the GC registers of the reference baseline (R138; log 5). -/
  gcBase   : Memory
  /-- The byte last handed to `BaseRegWrite(CRTC, ·)` at each offset (R138; log 5). -/
  crtcBase : Memory
  /-- The calls made to the baseline primitives, in order (R136; log 8). -/
  calls    : List BaselineCall
  /-- The bytes RR and MR operations returned, in order (R136; log 8). -/
  returned : List Byte
  /-- What the diagnostic sink took, in order (R73; log 9). Nothing reads it. -/
  notices  : List Notice
  /-- How many notices were offered to the sink: the index of the free choice whether it takes the next one (log 9). -/
  offered  : Nat
  /-- The transaction words the bus has yet to deliver, the next one first (R24, R136; log 6). -/
  pending  : List TransactionWord
  deriving DecidableEq, Repr

/-- The machine right after reset on the instance `p`, nothing written, nothing observed, nothing pending. -/
def State.resetOn (p : Params) : State where
  block := blockAfterReset
  params := p
  mem := []
  gcBase := []
  crtcBase := []
  calls := []
  returned := []
  notices := []
  offered := 0
  pending := []

/-- The machine right after reset (R25, R128) on the instance of `Params.default` (log 1). -/
def State.reset : State := State.resetOn Params.default

end Sys2Proof.Machine
end

