-- ==== Sys2Proof/Machine/Flags.lean ====
section
/-!
DEFINITION. The one-bit state and what is computed from it: the gate's comparison (R50, R51), the status bytes (R56, R58), the views
(R13) and WindowEnable (R19).
-/

namespace Sys2Proof.Machine

/-- GATE_MASK, of both gates (R51). -/
def gateMask : Byte := 0x07

/-- GATE_PATTERN, of both gates (R51). -/
def gatePattern : Byte := 0x05

/-- The new value of a gate whose status register is written with `code` (R50). -/
def unlocks (code : Byte) : Bool := code &&& gateMask == gatePattern

/-- How a status register reports its gate (R52). -/
def lockCode (gate : Bool) : Byte := if gate then 0x05 else 0x00

/-- T2_SCRATCH_MASK: bits 6 to 4 of the tier-2 status byte (R5, R57). -/
def scratchMask : Byte := 0x70

/-- The scratch bits a write of the tier-2 status register stores, in place (R57; log 14). -/
def scratchBits (data : Byte) : Byte := data &&& scratchMask

/-- The byte `RR.STATUS1` returns (R56). -/
def Block.status1 (b : Block) : Byte := lockCode b.gate1

/-- The byte `RR.STATUS2` returns (R58). -/
def Block.status2 (b : Block) : Byte := b.t2sb ||| lockCode b.gate2

/-- The view of a tier (R13): a projection of its gate, held nowhere. -/
inductive View where
  | locked
  | unlocked
  deriving DecidableEq, Repr

/-- The gate of a tier (R11, R12). -/
def Block.gate (b : Block) (t : Tier) : Bool :=
  match t with
  | .one => b.gate1
  | .two => b.gate2

/-- VIEW1 and VIEW2 (R13). -/
def Block.view (b : Block) (t : Tier) : View := if b.gate t then .unlocked else .locked

/-- WINEN, bit 0 of the video-control byte (R19). -/
def Block.winEn (b : Block) : Bool := b.vctl.getLsbD 0

end Sys2Proof.Machine
end

