-- ==== Sys2Proof/Machine/Operands.lean ====
section
/-!
DEFINITION. What a write takes from its data byte and how a read assembles its result (R41), and the address translation of the memory
window (R91, R92).
-/

namespace Sys2Proof.Machine

/-- SENTINEL: what a locked or reserved read returns (R64, R68). -/
def sentinel : Byte := 0xFF

/-- The bits of the data byte that `RW.AOFFA` stores: the low seven (R78). -/
def bankOf (data : Byte) : BitVec 7 := data.extractLsb' 0 7

/-- The byte `RR.AOFFA` returns: BANK, bit 7 clear (R77). -/
def bankByte (bank : BitVec 7) : Byte := bank.setWidth 8

/-- The byte `RR.AOFFB` returns: the stored byte under AOFFB_MASK (R79; log 16). -/
def aoffbByte (mask stored : Byte) : Byte := stored &&& mask

/-- The byte `RR.MEMSIZE` returns: the two top bits forced set, on readback only (R81). -/
def memsizeByte (stored : Byte) : Byte := 0xC0 ||| (stored &&& 0x3F)

/-- BANK_GRANULE in bytes (R5). -/
def bankGranule : Nat := 4096

/-- `translate(offset)` (R91, R92): BANK * 4096 is added while WINEN, nothing is added otherwise; no wrap and no mask (R93). The
result is the unbounded natural number R93 allows (log 18). -/
def Block.translate (b : Block) (offset : Nat) : Nat :=
  if b.winEn then offset + b.bank.toNat * bankGranule else offset

/-- EA_BITS (R93). -/
def eaBits (offsetBits : Nat) : Nat := max offsetBits 19 + 1

end Sys2Proof.Machine
end

