-- ==== Sys2Proof/Machine/Ops.lean ====
section
/-!
DEFINITION. The shared operations every meaning is built from: handing a byte back, offering a notice, calling a baseline primitive,
and the four ways an access ends (guarded, reserved, delegated, through the window). The block raises no exception and returns from
none (R110, R115, R116), so there is no operation for either.
-/

namespace Sys2Proof.Machine

/-- What a meaning answers. By R9 it is always a next state. -/
abbrev Result := Host.Outcome State Fault Refusal

/-- Replace the block's ten fields; nothing else moves. -/
def State.setBlock (s : State) (b : Block) : State := { s with block := b }

/-- Hand a byte back to the bus: `return v` (R7; log 8). -/
def State.answer (s : State) (v : Byte) : State := { s with returned := s.returned ++ [v] }

/-- Record a call of a baseline primitive (R136; log 8). -/
def State.called (s : State) (c : BaselineCall) : State := { s with calls := s.calls ++ [c] }

/-- `notify(e)`: offer a notice to the diagnostic sink, which may take it or not (R73; log 9). -/
def State.notify (s : State) (n : Notice) : State :=
  { s with
    notices := if Config.sinkTakes s.offered n then s.notices ++ [n] else s.notices
    offered := s.offered + 1 }

/-- The byte last handed to `MemWrite` at a backing-store address. -/
def State.memByte (s : State) (ea : Nat) : Byte := Memory.read s.mem ea

/-- Keep the byte handed to `MemWrite` (R138). -/
def State.setMemByte (s : State) (ea : Nat) (v : Byte) : State := { s with mem := Memory.write s.mem ea v }

/-- The byte last handed to `BaseRegWrite` at an offset of a space. -/
def State.baseByte (s : State) (space : Space) (addr : Byte) : Byte :=
  match space with
  | .gc => Memory.read s.gcBase addr.toNat
  | .crtc => Memory.read s.crtcBase addr.toNat

/-- Keep the byte handed to `BaseRegWrite` (R138). -/
def State.setBaseByte (s : State) (space : Space) (addr v : Byte) : State :=
  match space with
  | .gc => { s with gcBase := Memory.write s.gcBase addr.toNat v }
  | .crtc => { s with crtcBase := Memory.write s.crtcBase addr.toNat v }

/-- How many bytes the reference baseline's array has (R138). -/
def referenceSize : Nat := 2 ^ 20

/-- What `MemRead(ea, 1)` returns (R6): on the reference baseline the byte of its array (R138), beyond that array and on any other
baseline a free value (U8; log 4, log 5). The free value takes the CRTC-lock byte in force now, and not the byte in force at each call
before: DESIGN CHOICE (R18; log 27). -/
def State.memReadValue (s : State) (ea : Nat) : Byte :=
  match s.params.baseline with
  | .reference => if ea < referenceSize then s.memByte ea else Config.memRead s.calls s.block.crtclock ea
  | .oracle => Config.memRead s.calls s.block.crtclock ea

/-- What `BaseRegRead(space, addr)` returns (R6): on the reference baseline the byte last written (R138), on any other a free value
(log 4). The free value takes the CRTC-lock byte in force now, and not the byte in force at each call before, so a baseline that refuses
writes while the byte locks a register is not among them: DESIGN CHOICE (R18; log 27). -/
def State.baseReadValue (s : State) (space : Space) (addr : Byte) : Byte :=
  match s.params.baseline with
  | .reference => s.baseByte space addr
  | .oracle => Config.baseRegRead s.calls s.block.crtclock space addr

/-- `return BaseRegRead(space, addr)`: a read of an offset the block does not claim (R70). -/
def delegatedRead (space : Space) (addr : Byte) (s : State) : State :=
  (s.called (.regRead space addr)).answer (s.baseReadValue space addr)

/-- `BaseRegWrite(space, addr, data)`: a write of an offset the block does not claim (R71). -/
def delegatedWrite (space : Space) (addr data : Byte) (s : State) : State :=
  (s.setBaseByte space addr data).called (.regWrite space addr data)

/-- A read of a guarded offset that has a real handler: the locked stub (R64) or the handler (R66), by the view of the tier. -/
def guardedRead (t : Tier) (addr : Byte) (handler : Block → Byte) (s : State) : State :=
  match s.block.view t with
  | .locked => (s.notify (.lockedRead t addr)).answer sentinel
  | .unlocked => s.answer (handler s.block)

/-- A write of a guarded offset that has a real handler: the locked stub (R65) or the handler (R67), by the view of the tier. -/
def guardedWrite (t : Tier) (addr : Byte) (r : RegId) (data : Byte) (handler : Block → Block) (s : State) : State :=
  match s.block.view t with
  | .locked => s.notify (.lockedWrite t addr data)
  | .unlocked => (s.setBlock (handler s.block)).notify (.regWrite r data)

/-- A write of a status register (R55, R57): not guarded, so it acts in both gate states (R59). -/
def statusWrite (t : Tier) (r : RegId) (data : Byte) (b : Block) (s : State) : State :=
  ((s.setBlock b).notify (.gateTransition t (unlocks data))).notify (.regWrite r data)

/-- A read of a tier-2 offset that has no real handler: the sentinel in both gate states (R64, R68). -/
def inertRead (addr : Byte) (s : State) : State := (s.notify (.lockedRead .two addr)).answer sentinel

/-- A write of a tier-2 offset that has no real handler: discarded in both gate states (R65, R69). -/
def inertWrite (addr data : Byte) (s : State) : State := s.notify (.lockedWrite .two addr data)

/-- A read of a tier-2 register: CAPABLE claims its offset, BASE delegates it (R107; log 13, log 19). -/
def tierTwoRead (r : CrtcReg) (claimed : State → State) (s : State) : State :=
  match s.params.variant with
  | .capable => claimed s
  | .base => delegatedRead .crtc (s.params.crtcOffset r) s

/-- A write of a tier-2 register: CAPABLE claims its offset, BASE delegates it (R107; log 13, log 19). -/
def tierTwoWrite (r : CrtcReg) (data : Byte) (claimed : State → State) (s : State) : State :=
  match s.params.variant with
  | .capable => claimed s
  | .base => delegatedWrite .crtc (s.params.crtcOffset r) data s

/-- A read of a reserved tier-2 register by its mnemonic (R68). -/
def reservedRead (r : CrtcReg) (s : State) : State := tierTwoRead r (inertRead (s.params.crtcOffset r)) s

/-- A write of a reserved tier-2 register by its mnemonic (R69). -/
def reservedWrite (r : CrtcReg) (data : Byte) (s : State) : State :=
  tierTwoWrite r data (inertWrite (s.params.crtcOffset r) data) s

/-- `return MemRead(translate(offset), 1)` (R95). -/
def windowRead (offset : Nat) (s : State) : State :=
  (s.called (.memRead (s.block.translate offset))).answer (s.memReadValue (s.block.translate offset))

/-- `MemWrite(translate(offset), 1, data)` (R96). -/
def windowWrite (offset : Nat) (data : Byte) (s : State) : State :=
  (s.setMemByte (s.block.translate offset) data).called (.memWrite (s.block.translate offset) data)

end Sys2Proof.Machine
end

