-- ==== Sys2Proof/Machine/Delegated.lean ====
section
/-!
DEFINITION. The meanings of the delegated operations (41_view_switch.md section 5): handed to the baseline unchanged, in every gate state.
-/

namespace Sys2Proof.Machine

/-- `RR.GC.BASE` (R70). -/
def execRrGcBase (addr : Byte) (s : State) : Result := .next (delegatedRead .gc addr s)

/-- `RW.GC.BASE` (R71). -/
def execRwGcBase (addr data : Byte) (s : State) : Result := .next (delegatedWrite .gc addr data s)

/-- `RR.CRTC.BASE` (R70). -/
def execRrCrtcBase (addr : Byte) (s : State) : Result := .next (delegatedRead .crtc addr s)

/-- `RW.CRTC.BASE` (R71). -/
def execRwCrtcBase (addr data : Byte) (s : State) : Result := .next (delegatedWrite .crtc addr data s)

end Sys2Proof.Machine
end

