-- ==== Sys2Proof/Machine/ExtRegs.lean ====
section
/-!
DEFINITION. The meanings of the operations on the extended registers behind the view switches (42_ext_registers.md): the real handlers
R77 to R90, and the locked stubs R64 and R65 while the tier's gate is false.
-/

namespace Sys2Proof.Machine

/-- `RR.AOFFA`: BANK, zero-extended (R77; locked R64). -/
def execRrAoffa (s : State) : Result :=
  .next (guardedRead .one (s.params.gcOffset .aoffa) (fun b => bankByte b.bank) s)

/-- `RW.AOFFA`: the low seven bits go to BANK (R78; locked R65). -/
def execRwAoffa (data : Byte) (s : State) : Result :=
  .next (guardedWrite .one (s.params.gcOffset .aoffa) (.gc .aoffa) data (fun b => { b with bank := bankOf data }) s)

/-- `RR.AOFFB`: the stored byte under AOFFB_MASK (R79; locked R64). -/
def execRrAoffb (s : State) : Result :=
  .next (guardedRead .one (s.params.gcOffset .aoffb) (fun b => aoffbByte s.params.aoffbMask b.aoffb) s)

/-- `RW.AOFFB`: the whole byte is stored (R80; locked R65). -/
def execRwAoffb (data : Byte) (s : State) : Result :=
  .next (guardedWrite .one (s.params.gcOffset .aoffb) (.gc .aoffb) data (fun b => { b with aoffb := data }) s)

/-- `RR.MEMSIZE`: the stored byte with its two top bits forced (R81; locked R64). -/
def execRrMemsize (s : State) : Result :=
  .next (guardedRead .one (s.params.gcOffset .memsize) (fun b => memsizeByte b.memsize) s)

/-- `RW.MEMSIZE`: the whole byte is stored (R82; locked R65). -/
def execRwMemsize (data : Byte) (s : State) : Result :=
  .next (guardedWrite .one (s.params.gcOffset .memsize) (.gc .memsize) data (fun b => { b with memsize := data }) s)

/-- `RR.VSEL`: the stored byte (R83; locked R64). -/
def execRrVsel (s : State) : Result :=
  .next (guardedRead .one (s.params.gcOffset .vsel) (fun b => b.vsel) s)

/-- `RW.VSEL`: the whole byte is stored (R84; locked R65). -/
def execRwVsel (data : Byte) (s : State) : Result :=
  .next (guardedWrite .one (s.params.gcOffset .vsel) (.gc .vsel) data (fun b => { b with vsel := data }) s)

/-- `RR.CRTCLOCK`: the stored byte (R85; locked R64). -/
def execRrCrtclock (s : State) : Result :=
  .next (guardedRead .one (s.params.gcOffset .crtclock) (fun b => b.crtclock) s)

/-- `RW.CRTCLOCK`: the whole byte is stored, and locks nothing in the block (R86; locked R65). -/
def execRwCrtclock (data : Byte) (s : State) : Result :=
  .next (guardedWrite .one (s.params.gcOffset .crtclock) (.gc .crtclock) data (fun b => { b with crtclock := data }) s)

/-- `RR.VCTL`: the stored byte (R87; locked R64). -/
def execRrVctl (s : State) : Result :=
  .next (guardedRead .one (s.params.gcOffset .vctl) (fun b => b.vctl) s)

/-- `RW.VCTL`: the whole byte is stored; WindowEnable is its bit 0 (R88; locked R65). -/
def execRwVctl (data : Byte) (s : State) : Result :=
  .next (guardedWrite .one (s.params.gcOffset .vctl) (.gc .vctl) data (fun b => { b with vctl := data }) s)

/-- `RR.SCRATCH`: the stored byte (R89; locked R64; in BASE R70). -/
def execRrScratch (s : State) : Result :=
  .next (tierTwoRead .scratch (guardedRead .two (s.params.crtcOffset .scratch) (fun b => b.scratch)) s)

/-- `RW.SCRATCH`: the whole byte is stored (R90; locked R65; in BASE R71). -/
def execRwScratch (data : Byte) (s : State) : Result :=
  .next (tierTwoWrite .scratch data
    (guardedWrite .two (s.params.crtcOffset .scratch) (.crtc .scratch) data (fun b => { b with scratch := data })) s)

end Sys2Proof.Machine
end

