-- ==== Sys2Proof/Machine/Reserved.lean ====
section
/-!
DEFINITION. The meanings of the operations on tier 2's reserved offsets (41_view_switch.md section 4): a read returns the sentinel and a
write is discarded, in both gate states; in BASE the offset is delegated (R107).
-/

namespace Sys2Proof.Machine

/-- `RR.RSVD2A` (R68; locked R64; in BASE R70). -/
def execRrRsvd2A (s : State) : Result := .next (reservedRead .rsvd2A s)

/-- `RW.RSVD2A` (R69; locked R65; in BASE R71). -/
def execRwRsvd2A (data : Byte) (s : State) : Result := .next (reservedWrite .rsvd2A data s)

/-- `RR.RSVD2C` (R68; locked R64; in BASE R70). -/
def execRrRsvd2C (s : State) : Result := .next (reservedRead .rsvd2C s)

/-- `RW.RSVD2C` (R69; locked R65; in BASE R71). -/
def execRwRsvd2C (data : Byte) (s : State) : Result := .next (reservedWrite .rsvd2C data s)

/-- `RR.RSVD2D` (R68; locked R64; in BASE R70). -/
def execRrRsvd2D (s : State) : Result := .next (reservedRead .rsvd2D s)

/-- `RW.RSVD2D` (R69; locked R65; in BASE R71). -/
def execRwRsvd2D (data : Byte) (s : State) : Result := .next (reservedWrite .rsvd2D data s)

/-- `RR.RSVD2E` (R68; locked R64; in BASE R70). -/
def execRrRsvd2E (s : State) : Result := .next (reservedRead .rsvd2E s)

/-- `RW.RSVD2E` (R69; locked R65; in BASE R71). -/
def execRwRsvd2E (data : Byte) (s : State) : Result := .next (reservedWrite .rsvd2E data s)

/-- `RR.RSVD2F` (R68; locked R64; in BASE R70). -/
def execRrRsvd2F (s : State) : Result := .next (reservedRead .rsvd2F s)

/-- `RW.RSVD2F` (R69; locked R65; in BASE R71). -/
def execRwRsvd2F (data : Byte) (s : State) : Result := .next (reservedWrite .rsvd2F data s)

/-- `RR.RSVD30` (R68; locked R64; in BASE R70). -/
def execRrRsvd30 (s : State) : Result := .next (reservedRead .rsvd30 s)

/-- `RW.RSVD30` (R69; locked R65; in BASE R71). -/
def execRwRsvd30 (data : Byte) (s : State) : Result := .next (reservedWrite .rsvd30 data s)

/-- `RR.RSVD31` (R68; locked R64; in BASE R70). -/
def execRrRsvd31 (s : State) : Result := .next (reservedRead .rsvd31 s)

/-- `RW.RSVD31` (R69; locked R65; in BASE R71). -/
def execRwRsvd31 (data : Byte) (s : State) : Result := .next (reservedWrite .rsvd31 data s)

/-- `RR.RSVD32` (R68; locked R64; in BASE R70). -/
def execRrRsvd32 (s : State) : Result := .next (reservedRead .rsvd32 s)

/-- `RW.RSVD32` (R69; locked R65; in BASE R71). -/
def execRwRsvd32 (data : Byte) (s : State) : Result := .next (reservedWrite .rsvd32 data s)

/-- `RR.RSVD33` (R68; locked R64; in BASE R70). -/
def execRrRsvd33 (s : State) : Result := .next (reservedRead .rsvd33 s)

/-- `RW.RSVD33` (R69; locked R65; in BASE R71). -/
def execRwRsvd33 (data : Byte) (s : State) : Result := .next (reservedWrite .rsvd33 data s)

/-- `RR.RSVD34` (R68; locked R64; in BASE R70). -/
def execRrRsvd34 (s : State) : Result := .next (reservedRead .rsvd34 s)

/-- `RW.RSVD34` (R69; locked R65; in BASE R71). -/
def execRwRsvd34 (data : Byte) (s : State) : Result := .next (reservedWrite .rsvd34 data s)

/-- `RR.RSVD35` (R68; locked R64; in BASE R70). -/
def execRrRsvd35 (s : State) : Result := .next (reservedRead .rsvd35 s)

/-- `RW.RSVD35` (R69; locked R65; in BASE R71). -/
def execRwRsvd35 (data : Byte) (s : State) : Result := .next (reservedWrite .rsvd35 data s)

/-- `RR.RSVD36` (R68; locked R64; in BASE R70). -/
def execRrRsvd36 (s : State) : Result := .next (reservedRead .rsvd36 s)

/-- `RW.RSVD36` (R69; locked R65; in BASE R71). -/
def execRwRsvd36 (data : Byte) (s : State) : Result := .next (reservedWrite .rsvd36 data s)

/-- `RR.RSVD37` (R68; locked R64; in BASE R70). -/
def execRrRsvd37 (s : State) : Result := .next (reservedRead .rsvd37 s)

/-- `RW.RSVD37` (R69; locked R65; in BASE R71). -/
def execRwRsvd37 (data : Byte) (s : State) : Result := .next (reservedWrite .rsvd37 data s)

/-- `RR.RSVD38` (R68; locked R64; in BASE R70). -/
def execRrRsvd38 (s : State) : Result := .next (reservedRead .rsvd38 s)

/-- `RW.RSVD38` (R69; locked R65; in BASE R71). -/
def execRwRsvd38 (data : Byte) (s : State) : Result := .next (reservedWrite .rsvd38 data s)

/-- `RR.RSVD39` (R68; locked R64; in BASE R70). -/
def execRrRsvd39 (s : State) : Result := .next (reservedRead .rsvd39 s)

/-- `RW.RSVD39` (R69; locked R65; in BASE R71). -/
def execRwRsvd39 (data : Byte) (s : State) : Result := .next (reservedWrite .rsvd39 data s)

/-- `RR.RSVD3A` (R68; locked R64; in BASE R70). -/
def execRrRsvd3A (s : State) : Result := .next (reservedRead .rsvd3A s)

/-- `RW.RSVD3A` (R69; locked R65; in BASE R71). -/
def execRwRsvd3A (data : Byte) (s : State) : Result := .next (reservedWrite .rsvd3A data s)

/-- `RR.RSVD3B` (R68; locked R64; in BASE R70). -/
def execRrRsvd3B (s : State) : Result := .next (reservedRead .rsvd3B s)

/-- `RW.RSVD3B` (R69; locked R65; in BASE R71). -/
def execRwRsvd3B (data : Byte) (s : State) : Result := .next (reservedWrite .rsvd3B data s)

/-- `RR.RSVD3C` (R68; locked R64; in BASE R70). -/
def execRrRsvd3C (s : State) : Result := .next (reservedRead .rsvd3C s)

/-- `RW.RSVD3C` (R69; locked R65; in BASE R71). -/
def execRwRsvd3C (data : Byte) (s : State) : Result := .next (reservedWrite .rsvd3C data s)

/-- `RR.RSVD3D` (R68; locked R64; in BASE R70). -/
def execRrRsvd3D (s : State) : Result := .next (reservedRead .rsvd3D s)

/-- `RW.RSVD3D` (R69; locked R65; in BASE R71). -/
def execRwRsvd3D (data : Byte) (s : State) : Result := .next (reservedWrite .rsvd3D data s)

/-- `RR.RSVD3E` (R68; locked R64; in BASE R70). -/
def execRrRsvd3E (s : State) : Result := .next (reservedRead .rsvd3E s)

/-- `RW.RSVD3E` (R69; locked R65; in BASE R71). -/
def execRwRsvd3E (data : Byte) (s : State) : Result := .next (reservedWrite .rsvd3E data s)

/-- `RR.RSVD3F` (R68; locked R64; in BASE R70). -/
def execRrRsvd3F (s : State) : Result := .next (reservedRead .rsvd3F s)

/-- `RW.RSVD3F` (R69; locked R65; in BASE R71). -/
def execRwRsvd3F (data : Byte) (s : State) : Result := .next (reservedWrite .rsvd3F data s)

end Sys2Proof.Machine
end

