-- ==== Sys2Proof/Machine/ResetOp.lean ====
section
/-!
DEFINITION. The meaning of RESET (70_reset_and_hazards.md).
-/

namespace Sys2Proof.Machine

/-- `RESET` (R125): every field of the block at its reset value, all together; parameters, backing store, baseline registers and the
operations still to come are not touched. -/
def execReset (s : State) : Result := .next (s.setBlock blockAfterReset)

end Sys2Proof.Machine
end

