-- ==== Sys2Proof/Machine/Status.lean ====
section
/-!
DEFINITION. The meanings of the four operations on the status registers (40_lock_gate.md): the only operations, beside RESET, that change
a gate (R61, R142).
-/

namespace Sys2Proof.Machine

/-- `RR.STATUS1` (R56). -/
def execRrStatus1 (s : State) : Result := .next (s.answer s.block.status1)

/-- `RW.STATUS1` (R55): GATE1 and nothing else. -/
def execRwStatus1 (data : Byte) (s : State) : Result :=
  .next (statusWrite .one (.gc .status1) data { s.block with gate1 := unlocks data } s)

/-- `RR.STATUS2` (R58; in BASE R70). -/
def execRrStatus2 (s : State) : Result :=
  .next (tierTwoRead .status2 (fun s => s.answer s.block.status2) s)

/-- `RW.STATUS2` (R57; in BASE R71): GATE2 and T2SB, on every execution (log 15). -/
def execRwStatus2 (data : Byte) (s : State) : Result :=
  .next (tierTwoWrite .status2 data
    (fun s => statusWrite .two (.crtc .status2) data
      { s.block with gate2 := unlocks data, t2sb := scratchBits data } s) s)

end Sys2Proof.Machine
end

