-- ==== Sys2Proof/Machine/Window.lean ====
section
/-!
DEFINITION. The meanings of the two memory operations (43_memory_window.md). Neither depends on a gate (R98) or on VARIANT (R103).
-/

namespace Sys2Proof.Machine

/-- `MR` (R95). -/
def execMr (offset : Nat) (s : State) : Result := .next (windowRead offset s)

/-- `MW` (R96). -/
def execMw (offset : Nat) (data : Byte) (s : State) : Result := .next (windowWrite offset data s)

end Sys2Proof.Machine
end

