-- ==== Sys2Proof/Machine/Dispatch.lean ====
section
/-! DEFINITION. One arm per operation, each one direct call of its meaning (R43). -/

namespace Sys2Proof.Machine

def exec (i : Instr) (s : State) : Host.Outcome State Fault Refusal :=
  match i with
  | .rrAoffa => Sys2Proof.Machine.execRrAoffa s
  | .rwAoffa data => Sys2Proof.Machine.execRwAoffa data s
  | .rrAoffb => Sys2Proof.Machine.execRrAoffb s
  | .rwAoffb data => Sys2Proof.Machine.execRwAoffb data s
  | .rrMemsize => Sys2Proof.Machine.execRrMemsize s
  | .rwMemsize data => Sys2Proof.Machine.execRwMemsize data s
  | .rrVsel => Sys2Proof.Machine.execRrVsel s
  | .rwVsel data => Sys2Proof.Machine.execRwVsel data s
  | .rrCrtclock => Sys2Proof.Machine.execRrCrtclock s
  | .rwCrtclock data => Sys2Proof.Machine.execRwCrtclock data s
  | .rrVctl => Sys2Proof.Machine.execRrVctl s
  | .rwVctl data => Sys2Proof.Machine.execRwVctl data s
  | .rrStatus1 => Sys2Proof.Machine.execRrStatus1 s
  | .rwStatus1 data => Sys2Proof.Machine.execRwStatus1 data s
  | .rrStatus2 => Sys2Proof.Machine.execRrStatus2 s
  | .rwStatus2 data => Sys2Proof.Machine.execRwStatus2 data s
  | .rrRsvd2A => Sys2Proof.Machine.execRrRsvd2A s
  | .rwRsvd2A data => Sys2Proof.Machine.execRwRsvd2A data s
  | .rrScratch => Sys2Proof.Machine.execRrScratch s
  | .rwScratch data => Sys2Proof.Machine.execRwScratch data s
  | .rrRsvd2C => Sys2Proof.Machine.execRrRsvd2C s
  | .rwRsvd2C data => Sys2Proof.Machine.execRwRsvd2C data s
  | .rrRsvd2D => Sys2Proof.Machine.execRrRsvd2D s
  | .rwRsvd2D data => Sys2Proof.Machine.execRwRsvd2D data s
  | .rrRsvd2E => Sys2Proof.Machine.execRrRsvd2E s
  | .rwRsvd2E data => Sys2Proof.Machine.execRwRsvd2E data s
  | .rrRsvd2F => Sys2Proof.Machine.execRrRsvd2F s
  | .rwRsvd2F data => Sys2Proof.Machine.execRwRsvd2F data s
  | .rrRsvd30 => Sys2Proof.Machine.execRrRsvd30 s
  | .rwRsvd30 data => Sys2Proof.Machine.execRwRsvd30 data s
  | .rrRsvd31 => Sys2Proof.Machine.execRrRsvd31 s
  | .rwRsvd31 data => Sys2Proof.Machine.execRwRsvd31 data s
  | .rrRsvd32 => Sys2Proof.Machine.execRrRsvd32 s
  | .rwRsvd32 data => Sys2Proof.Machine.execRwRsvd32 data s
  | .rrRsvd33 => Sys2Proof.Machine.execRrRsvd33 s
  | .rwRsvd33 data => Sys2Proof.Machine.execRwRsvd33 data s
  | .rrRsvd34 => Sys2Proof.Machine.execRrRsvd34 s
  | .rwRsvd34 data => Sys2Proof.Machine.execRwRsvd34 data s
  | .rrRsvd35 => Sys2Proof.Machine.execRrRsvd35 s
  | .rwRsvd35 data => Sys2Proof.Machine.execRwRsvd35 data s
  | .rrRsvd36 => Sys2Proof.Machine.execRrRsvd36 s
  | .rwRsvd36 data => Sys2Proof.Machine.execRwRsvd36 data s
  | .rrRsvd37 => Sys2Proof.Machine.execRrRsvd37 s
  | .rwRsvd37 data => Sys2Proof.Machine.execRwRsvd37 data s
  | .rrRsvd38 => Sys2Proof.Machine.execRrRsvd38 s
  | .rwRsvd38 data => Sys2Proof.Machine.execRwRsvd38 data s
  | .rrRsvd39 => Sys2Proof.Machine.execRrRsvd39 s
  | .rwRsvd39 data => Sys2Proof.Machine.execRwRsvd39 data s
  | .rrRsvd3A => Sys2Proof.Machine.execRrRsvd3A s
  | .rwRsvd3A data => Sys2Proof.Machine.execRwRsvd3A data s
  | .rrRsvd3B => Sys2Proof.Machine.execRrRsvd3B s
  | .rwRsvd3B data => Sys2Proof.Machine.execRwRsvd3B data s
  | .rrRsvd3C => Sys2Proof.Machine.execRrRsvd3C s
  | .rwRsvd3C data => Sys2Proof.Machine.execRwRsvd3C data s
  | .rrRsvd3D => Sys2Proof.Machine.execRrRsvd3D s
  | .rwRsvd3D data => Sys2Proof.Machine.execRwRsvd3D data s
  | .rrRsvd3E => Sys2Proof.Machine.execRrRsvd3E s
  | .rwRsvd3E data => Sys2Proof.Machine.execRwRsvd3E data s
  | .rrRsvd3F => Sys2Proof.Machine.execRrRsvd3F s
  | .rwRsvd3F data => Sys2Proof.Machine.execRwRsvd3F data s
  | .rrGcBase addr => Sys2Proof.Machine.execRrGcBase addr s
  | .rwGcBase addr data => Sys2Proof.Machine.execRwGcBase addr data s
  | .rrCrtcBase addr => Sys2Proof.Machine.execRrCrtcBase addr s
  | .rwCrtcBase addr data => Sys2Proof.Machine.execRwCrtcBase addr data s
  | .mr offset => Sys2Proof.Machine.execMr offset s
  | .mw offset data => Sys2Proof.Machine.execMw offset data s
  | .reset => Sys2Proof.Machine.execReset s

end Sys2Proof.Machine
end

