-- ==== Sys2Proof/Machine/Step.lean ====
section
/-!
DEFINITION. One step: the next pending operation is taken, decoded and performed completely (R28). A step that finds no operation, or
a word that is not one, is refused.
-/

namespace Sys2Proof.Machine

/-- One step of the machine (R8, R24, R28, R136; log 6). -/
def step (s : State) : Host.Outcome State Fault Refusal :=
  match s.pending with
  | [] => .refused .noOperationPending
  | w :: rest =>
    match decode s.params w with
    | .error e => .refused (.notAnOperation e)
    | .ok i => exec i { s with pending := rest }

/-- The state whose next operation is the one whose bits are `w`: the bus delivers its transaction word ahead of everything pending
(log 7). -/
def State.withFetchWord (s : State) (nbits w : Nat) : State :=
  { s with pending := BitVec.ofNat 32 (w % 2 ^ nbits) :: s.pending }

end Sys2Proof.Machine
end

