-- ==== Sys2Proof/Safety.lean ====
section
/-!
DEFINITION. What the statements speak in: the invariants of the machine, the ways an operation may end (with its frame), and a list of
operations performed head first (R136).
-/

namespace Sys2Proof.Machine

/-! The invariants. -/

/-- The tier-2 fields of an instance without tier 2 (R10, R104): at their reset values (log 12). -/
def State.tierTwoAbsent (s : State) : Prop :=
  s.block.gate2 = false ∧ s.block.t2sb = 0 ∧ s.block.scratch = 0

/-- The shape of a state: legal parameters (R5), T2SB within its three bits (R20), no tier-2 state in BASE (R10), canonical stores
(log 5), and no more notices taken than offered (R73). -/
def State.Inv (s : State) : Prop :=
  s.params.wf = true ∧
  s.block.t2sb &&& 0x70 = s.block.t2sb ∧
  (s.params.variant = .base → s.tierTwoAbsent) ∧
  Memory.wf s.mem = true ∧ Memory.wf s.gcBase = true ∧ Memory.wf s.crtcBase = true ∧
  s.notices.length ≤ s.offered

/-- The call names an offset the block leaves to the baseline (R32), or is a memory call. -/
def unclaimedCall (v : Variant) (c : BaselineCall) : Prop :=
  match c with
  | .memRead _ => True
  | .memWrite _ _ => True
  | .regRead space addr => claims v space addr = false
  | .regWrite space addr _ => claims v space addr = false

/-- The baseline was never called for an offset the block claims (R72). -/
def State.OnlyUnclaimedCalls (s : State) : Prop :=
  ∀ c ∈ s.calls, unclaimedCall s.params.variant c

/-- A memory access performed now could show a split of read bank and write bank, which the spec leaves open and forbids to guess
(R97, U1): a claim whose truth rests on such an access is outside the model. -/
def State.splitBankOpen (s : State) : Bool :=
  s.block.winEn && decide (s.block.aoffb ≠ bankByte s.block.bank)

/-! The frame of an operation. -/

/-- Every byte of the backing store and of the baseline's registers is as it was. -/
def State.SameBytes (s t : State) : Prop :=
  (∀ ea, t.memByte ea = s.memByte ea) ∧ ∀ space addr, t.baseByte space addr = s.baseByte space addr

/-- The instance is the same, and so are the operations still to come. -/
def State.SameInstance (s t : State) : Prop :=
  t.params = s.params ∧ t.pending = s.pending

/-- Exactly the notices `ns` were offered to the sink, in this order, and it took some of them (R73). -/
def State.Offered (s t : State) (ns : List Notice) : Prop :=
  t.offered = s.offered + ns.length ∧ ∃ taken, taken.Sublist ns ∧ t.notices = s.notices ++ taken

/-- `i` completes inside the block as a read: it returns `v`, offers `ns`, and changes nothing else. -/
def AnswersInside (i : Instr) (s : State) (v : Byte) (ns : List Notice) : Prop :=
  ∃ t, exec i s = .next t ∧ t.returned = s.returned ++ [v] ∧ t.block = s.block ∧ t.calls = s.calls ∧
    s.SameBytes t ∧ s.SameInstance t ∧ s.Offered t ns

/-- `i` completes inside the block as a write or a reset: the block becomes `b`, `ns` are offered, and nothing else changes. -/
def StoresInside (i : Instr) (s : State) (b : Block) (ns : List Notice) : Prop :=
  ∃ t, exec i s = .next t ∧ t.returned = s.returned ∧ t.block = b ∧ t.calls = s.calls ∧
    s.SameBytes t ∧ s.SameInstance t ∧ s.Offered t ns

/-- `i` completes as a read through the baseline: exactly the call `c` is made, `v` is returned, and nothing else changes. -/
def AnswersFromBaseline (i : Instr) (s : State) (c : BaselineCall) (v : Byte) : Prop :=
  ∃ t, exec i s = .next t ∧ t.returned = s.returned ++ [v] ∧ t.block = s.block ∧ t.calls = s.calls ++ [c] ∧
    s.SameBytes t ∧ s.SameInstance t ∧ s.Offered t []

/-- `i` completes as a register write through the baseline: exactly the call `BaseRegWrite(space, addr, data)` is made, the byte kept
there is `data` (canonical stores being premised), and nothing else changes. -/
def HandsRegister (i : Instr) (s : State) (space : Space) (addr data : Byte) : Prop :=
  ∃ t, exec i s = .next t ∧ t.returned = s.returned ∧ t.block = s.block ∧
    t.calls = s.calls ++ [.regWrite space addr data] ∧
    (s.Inv → t.baseByte space addr = data) ∧
    (∀ space' addr', ¬(space' = space ∧ addr' = addr) → t.baseByte space' addr' = s.baseByte space' addr') ∧
    (∀ ea, t.memByte ea = s.memByte ea) ∧ s.SameInstance t ∧ s.Offered t []

/-- `i` completes as a memory write through the baseline: exactly the call `MemWrite(ea, 1, data)` is made, the byte kept there is `data`
(canonical stores being premised), and nothing else changes. -/
def HandsMemory (i : Instr) (s : State) (ea : Nat) (data : Byte) : Prop :=
  ∃ t, exec i s = .next t ∧ t.returned = s.returned ∧ t.block = s.block ∧ t.calls = s.calls ++ [.memWrite ea data] ∧
    (s.Inv → t.memByte ea = data) ∧ (∀ a, a ≠ ea → t.memByte a = s.memByte a) ∧
    (∀ space addr, t.baseByte space addr = s.baseByte space addr) ∧ s.SameInstance t ∧ s.Offered t []

/-! Lists of operations, and the tables of R41. -/

/-- Operations performed head first, each on the state the one before left (R136). -/
def runAll (is : List Instr) (s : State) : Result :=
  match is with
  | [] => .next s
  | i :: rest =>
    match exec i s with
    | .next t => runAll rest t
    | .fault r => .fault r
    | .refused r => .refused r

/-- `is` completes from `s`, returns exactly the bytes `vs`, and leaves the block `b`. -/
def RunReturns (is : List Instr) (s : State) (vs : List Byte) (b : Block) : Prop :=
  ∃ t, runAll is s = .next t ∧ t.returned = s.returned ++ vs ∧ t.block = b

/-- An MR or an MW of the offset `off` right after `i` completes with exactly one call of the baseline, at the address `ea`; an MW keeps
its byte there (canonical stores being premised) and no other byte of the store changes. -/
def NextMemoryAccessAt (i : Instr) (s : State) (off ea : Nat) : Prop :=
  (∃ t, runAll [i, .mr off] s = .next t ∧ t.calls = s.calls ++ [.memRead ea] ∧ ∀ a, t.memByte a = s.memByte a) ∧
  ∀ e : Byte, ∃ t, runAll [i, .mw off e] s = .next t ∧ t.calls = s.calls ++ [.memWrite ea e] ∧
    (s.Inv → t.memByte ea = e) ∧ ∀ a, a ≠ ea → t.memByte a = s.memByte a

/-- The byte an unlocked read of a tier-1 register assembles (R41, right column); for STATUS1 in both views. -/
def gcReadback (aoffbMask : Byte) (b : Block) (r : GcReg) : Byte :=
  match r with
  | .aoffa => b.bank.setWidth 8
  | .aoffb => b.aoffb &&& aoffbMask
  | .memsize => 0xC0 ||| (b.memsize &&& 0x3F)
  | .vsel => b.vsel
  | .crtclock => b.crtclock
  | .vctl => b.vctl
  | .status1 => if b.gate1 then 0x05 else 0x00

/-- The block after an unlocked write of a tier-1 register (R41, middle column); for STATUS1 in both views. -/
def gcWritten (b : Block) (r : GcReg) (data : Byte) : Block :=
  match r with
  | .aoffa => { b with bank := data.setWidth 7 }
  | .aoffb => { b with aoffb := data }
  | .memsize => { b with memsize := data }
  | .vsel => { b with vsel := data }
  | .crtclock => { b with crtclock := data }
  | .vctl => { b with vctl := data }
  | .status1 => { b with gate1 := data &&& 0x07 == 0x05 }

/-- The relation of R106 between an instance of the CAPABLE variant and one of the BASE variant: everything equal but VARIANT and the
three fields BASE does not have, and the sink's own trace. -/
def VariantsAlike (c b : State) : Prop :=
  c.params.variant = .capable ∧ b.params = { c.params with variant := .base } ∧
  b.block = { c.block with gate2 := b.block.gate2, t2sb := b.block.t2sb, scratch := b.block.scratch } ∧
  b.mem = c.mem ∧ b.gcBase = c.gcBase ∧ b.crtcBase = c.crtcBase ∧ b.calls = c.calls ∧ b.returned = c.returned ∧
  b.pending = c.pending

end Sys2Proof.Machine
end

