-- ==== Sys2Proof/Certificates/Slice0/Obligations.lean ====
section
/-!
DEFINITION. The obligations: statements about the machine, taken from the numbered rules of spec/, each with the rules it rests on in
OBLIGATIONS.json.
-/

open Sys2Proof Sys2Proof.Machine

/-- O1. When the first pending word decodes to the operation i, step is exec of i on the state with that word taken off the
list. The list is the model's bookkeeping (log 6). -/
def Obligations.StepRunsTheDecodedOperation : Prop :=
  ∀ (s : State) (w : TransactionWord) (rest : List TransactionWord) (i : Instr),
    s.pending = w :: rest → decode s.params w = .ok i → step s = exec i { s with pending := rest }

/-- O2. The six example words of R39 and one word of each remaining family, at the default parameters (address map D1 and D3,
log 2), decode to the operations the spec names. -/
def Obligations.SpecExampleWordsDecode : Prop :=
  decode Params.default 0x20000F05 = .ok (.rwStatus1 0x05) ∧
  decode Params.default 0x10000F00 = .ok .rrStatus1 ∧
  decode Params.default 0x21002985 = .ok (.rwStatus2 0x85) ∧
  decode Params.default 0x30001000 = .ok (.mr 0x10) ∧
  decode Params.default 0x40001055 = .ok (.mw 0x10 0x55) ∧
  decode Params.default 0x00000000 = .ok .reset ∧
  decode Params.default 0x2000092A = .ok (.rwAoffa 0x2A) ∧
  decode Params.default 0x11003000 = .ok .rrRsvd30 ∧
  decode Params.default 0x20000844 = .ok (.rwGcBase 0x08 0x44)

/-- O3. On every instance with legal parameters, whatever its address map, and for every operation of that instance with every
operand value, decode of encode is the operation itself. The address map is a permutation (log 3); the word form is the
spec's own (D12). -/
def Obligations.EncodedOperationsDecodeToThemselves : Prop :=
  ∀ (p : Params) (i : Instr), p.wf = true → i.wf p = true → decode p (encode p i) = .ok i

/-- O4. On every instance with legal parameters a word that decodes gives an operation of that instance; the operation's word
has the same bits 31 to 8; and it has the same bits 7 to 0 unless the word's KIND is 1 or 3 (a read, whose data byte is
ignored, D22). So each operation has one word, or 256 that differ in the ignored byte. -/
def Obligations.DecodedWordsEncodeBack : Prop :=
  ∀ (p : Params) (w : TransactionWord) (i : Instr), p.wf = true → decode p w = .ok i →
    i.wf p = true ∧ (encode p i).toNat / 2 ^ 8 = w.toNat / 2 ^ 8 ∧
    (w.toNat / 2 ^ 28 ≠ 1 → w.toNat / 2 ^ 28 ≠ 3 → encode p i = w)

/-- O5. A word is refused by the decoder if and only if its KIND is 5 to 15, or it is an RR or RW with SPACE 2 to 15 or non-zero
bits 23 to 16, or a RESET with non-zero bits 27 to 0, or an MR or MW whose offset does not fit in OFFSET_BITS; and a step
whose first pending word is one is refused by name. -/
def Obligations.ExactlyTheNonOperationsAreRefused : Prop :=
  ∀ (p : Params) (w : TransactionWord),
    ((∃ e, decode p w = .error e) ↔
      (5 ≤ w.toNat / 2 ^ 28 ∨
       ((w.toNat / 2 ^ 28 = 1 ∨ w.toNat / 2 ^ 28 = 2) ∧ (2 ≤ w.toNat / 2 ^ 24 % 16 ∨ w.toNat / 2 ^ 16 % 256 ≠ 0)) ∨
       (w.toNat / 2 ^ 28 = 0 ∧ w.toNat % 2 ^ 28 ≠ 0) ∨
       ((w.toNat / 2 ^ 28 = 3 ∨ w.toNat / 2 ^ 28 = 4) ∧ 2 ^ p.offsetBits ≤ w.toNat / 2 ^ 8 % 2 ^ 20))) ∧
    (∀ (s : State) (rest : List TransactionWord) (e : DecodeError),
      s.params = p → s.pending = w :: rest → decode p w = .error e → step s = .refused (.notAnOperation e))

/-- O6. Every step answers a next state, unless no operation is pending (the run has ended; the refusal's name is the model's,
log 6) or the first pending word is not an operation. No step ends in a fault. -/
def Obligations.StepStopsOnlyWithoutAnOperation : Prop :=
  ∀ s : State,
    (∃ t, step s = .next t) ∨
    (s.pending = [] ∧ step s = .refused .noOperationPending) ∨
    (∃ w rest e, s.pending = w :: rest ∧ decode s.params w = .error e ∧ step s = .refused (.notAnOperation e))

/-- O7. On every instance, for every space, address and data byte, the RR word and the RW word decode to operations; and every
operation, on every state, answers a next state. -/
def Obligations.NoEncodingIsIllegalAndNoOperationTraps : Prop :=
  (∀ (p : Params) (space : Space) (addr data : Byte),
    (∃ i, decode p (regWord 1 space addr data) = .ok i) ∧ (∃ i, decode p (regWord 2 space addr data) = .ok i)) ∧
  (∀ (i : Instr) (s : State), ∃ t, exec i s = .next t)

/-- O8. For every list of operations of the instance, as many steps as the list is long, from a state whose pending words are
their words, reach exactly the state (or outcome) that performing the operations one after another reaches; then nothing is
pending and one more step is refused because the run has ended (log 6). -/
def Obligations.RunPerformsTheListHeadFirst : Prop :=
  ∀ (is : List Instr) (s : State), s.params.wf = true → (∀ i ∈ is, i.wf s.params = true) →
    ∃ t, runAll is { s with pending := [] } = .next t ∧
      Host.Core.run Sys2Proof.core is.length { s with pending := is.map (encode s.params) } = .next t ∧
      t.pending = [] ∧ step t = .refused .noOperationPending

/-- O9. On the default instance (address map D1 and D3, log 2) an RR and an RW at each of the 7 GC and 23 CRTC claimed offsets
decode to the row the table of R33 names there, whatever the data byte, and an RR and an RW at the four offsets next to the
two claimed ranges decode to delegated operations. -/
def Obligations.DefaultMapPlacesTheRegisters : Prop :=
  ∀ d : Byte,
    (∀ k, (h : k < 7) → decode Params.default (regWord 1 .gc (BitVec.ofNat 8 (0x09 + k)) d) =
        .ok ([Instr.rrAoffa, .rrAoffb, .rrMemsize, .rrVsel, .rrCrtclock, .rrVctl, .rrStatus1][k])) ∧
    (∀ k, (h : k < 7) → decode Params.default (regWord 2 .gc (BitVec.ofNat 8 (0x09 + k)) d) =
        .ok ([Instr.rwAoffa d, .rwAoffb d, .rwMemsize d, .rwVsel d, .rwCrtclock d, .rwVctl d, .rwStatus1 d][k])) ∧
    decode Params.default (regWord 1 .crtc 0x29 d) = .ok .rrStatus2 ∧
    decode Params.default (regWord 2 .crtc 0x29 d) = .ok (.rwStatus2 d) ∧
    decode Params.default (regWord 1 .crtc 0x2A d) = .ok .rrRsvd2A ∧
    decode Params.default (regWord 2 .crtc 0x2A d) = .ok (.rwRsvd2A d) ∧
    decode Params.default (regWord 1 .crtc 0x2B d) = .ok .rrScratch ∧
    decode Params.default (regWord 2 .crtc 0x2B d) = .ok (.rwScratch d) ∧
    (∀ k, (h : k < 20) → decode Params.default (regWord 1 .crtc (BitVec.ofNat 8 (0x2C + k)) d) =
        .ok ([Instr.rrRsvd2C, .rrRsvd2D, .rrRsvd2E, .rrRsvd2F, .rrRsvd30, .rrRsvd31, .rrRsvd32, .rrRsvd33, .rrRsvd34,
              .rrRsvd35, .rrRsvd36, .rrRsvd37, .rrRsvd38, .rrRsvd39, .rrRsvd3A, .rrRsvd3B, .rrRsvd3C, .rrRsvd3D,
              .rrRsvd3E, .rrRsvd3F][k])) ∧
    (∀ k, (h : k < 20) → decode Params.default (regWord 2 .crtc (BitVec.ofNat 8 (0x2C + k)) d) =
        .ok ([Instr.rwRsvd2C d, .rwRsvd2D d, .rwRsvd2E d, .rwRsvd2F d, .rwRsvd30 d, .rwRsvd31 d, .rwRsvd32 d,
              .rwRsvd33 d, .rwRsvd34 d, .rwRsvd35 d, .rwRsvd36 d, .rwRsvd37 d, .rwRsvd38 d, .rwRsvd39 d, .rwRsvd3A d,
              .rwRsvd3B d, .rwRsvd3C d, .rwRsvd3D d, .rwRsvd3E d, .rwRsvd3F d][k])) ∧
    (∀ a : Byte, a = 0x08 ∨ a = 0x10 → decode Params.default (regWord 1 .gc a d) = .ok (.rrGcBase a) ∧
      decode Params.default (regWord 2 .gc a d) = .ok (.rwGcBase a d)) ∧
    (∀ a : Byte, a = 0x28 ∨ a = 0x40 → decode Params.default (regWord 1 .crtc a d) = .ok (.rrCrtcBase a) ∧
      decode Params.default (regWord 2 .crtc a d) = .ok (.rwCrtcBase a d))

/-- O10. In every state RW.STATUS1 completes: GATE1 becomes (data & 0x07) == 0x05 whether it was true or false, every other
field, byte, call and returned byte is as before; a gate transition and a register write are offered to the sink, and
whether it takes either is left free (R73). -/
def Obligations.StatusOneWriteDrivesGateOne : Prop :=
  ∀ (s : State) (d : Byte),
    StoresInside (.rwStatus1 d) s { s.block with gate1 := decide (d &&& 0x07 = 0x05) }
      [.gateTransition .one (decide (d &&& 0x07 = 0x05)), .regWrite (.gc .status1) d]

/-- O11. In every state RR.STATUS1 completes, returns 0x05 if GATE1 is true and 0x00 if it is false, offers no notice and
changes nothing else. -/
def Obligations.StatusOneReadReportsGateOne : Prop :=
  ∀ s : State, AnswersInside .rrStatus1 s (if s.block.gate1 then 0x05 else 0x00) []

/-- O12. In CAPABLE, in every state, RW.STATUS2 completes: GATE2 becomes (data & 0x07) == 0x05 and T2SB becomes data & 0x70 (in
place by D5, always captured by D21; log 14, log 15); nothing else changes. -/
def Obligations.StatusTwoWriteDrivesGateTwoAndScratchBits : Prop :=
  ∀ (s : State) (d : Byte), s.params.variant = .capable →
    StoresInside (.rwStatus2 d) s { s.block with gate2 := decide (d &&& 0x07 = 0x05), t2sb := d &&& 0x70 }
      [.gateTransition .two (decide (d &&& 0x07 = 0x05)), .regWrite (.crtc .status2) d]

/-- O13. In CAPABLE, in every state, RR.STATUS2 completes and returns T2SB OR (0x05 if GATE2 else 0x00), changing nothing; in a
state that meets the invariant bits 7, 3 and 1 of that byte are 0 and bits 2 and 0 are both GATE2. -/
def Obligations.StatusTwoReadReportsGateTwoAndScratchBits : Prop :=
  ∀ s : State, s.params.variant = .capable →
    AnswersInside .rrStatus2 s (s.block.t2sb ||| (if s.block.gate2 then 0x05 else 0x00)) [] ∧
    (s.Inv →
      (s.block.t2sb ||| (if s.block.gate2 then 0x05 else 0x00)) &&& 0x8A = 0x00 ∧
      (s.block.t2sb ||| (if s.block.gate2 then 0x05 else 0x00)).getLsbD 2 = s.block.gate2 ∧
      (s.block.t2sb ||| (if s.block.gate2 then 0x05 else 0x00)).getLsbD 0 = s.block.gate2)

/-- O14. The source's first property (E1), for every code in every state: RW.STATUS1 code then RR.STATUS1 returns 0x05 if (code
& 0x07) == 0x05 else 0x00; in CAPABLE RW.STATUS2 code then RR.STATUS2 returns (code & 0x70) | 0x05 if it unlocks else code &
0x70 (scratch bits in place, D5). -/
def Obligations.StatusWriteThenStatusReadReportsTheCode : Prop :=
  ∀ (s : State) (c : Byte),
    RunReturns [.rwStatus1 c, .rrStatus1] s [if c &&& 0x07 = 0x05 then 0x05 else 0x00]
      { s.block with gate1 := decide (c &&& 0x07 = 0x05) } ∧
    (s.params.variant = .capable →
      RunReturns [.rwStatus2 c, .rrStatus2] s [if c &&& 0x07 = 0x05 then (c &&& 0x70) ||| 0x05 else c &&& 0x70]
        { s.block with gate2 := decide (c &&& 0x07 = 0x05), t2sb := c &&& 0x70 })

/-- O15. In every state, after RW.STATUS1 code the gate GATE1 is true iff bit 2 of code is set, bit 1 clear and bit 0 set, iff
code & 0x07 = 0x05, iff code is 8k + 5 for a k from 0 to 31, and it is false for every other byte; in CAPABLE the same of
RW.STATUS2 and GATE2. -/
def Obligations.ExactlyThirtyTwoBytesUnlock : Prop :=
  ∀ (s : State) (c : Byte),
    (∃ t, exec (.rwStatus1 c) s = .next t ∧
      (t.block.gate1 = true ↔ c.getLsbD 2 = true ∧ c.getLsbD 1 = false ∧ c.getLsbD 0 = true) ∧
      (t.block.gate1 = true ↔ c &&& 0x07 = 0x05) ∧
      (t.block.gate1 = true ↔ ∃ k, k < 32 ∧ c.toNat = 8 * k + 5)) ∧
    (s.params.variant = .capable → ∃ t, exec (.rwStatus2 c) s = .next t ∧
      (t.block.gate2 = true ↔ c.getLsbD 2 = true ∧ c.getLsbD 1 = false ∧ c.getLsbD 0 = true) ∧
      (t.block.gate2 = true ↔ c &&& 0x07 = 0x05) ∧
      (t.block.gate2 = true ↔ ∃ k, k < 32 ∧ c.toNat = 8 * k + 5))

/-- O16. From any two states, the same code written to the same status register leaves the same gate value, which is (code &
mask) == pattern; for tier 2 both states are of CAPABLE instances. -/
def Obligations.GateDependsOnTheWrittenCodeAlone : Prop :=
  ∀ (s s' t t' : State) (c : Byte),
    (exec (.rwStatus1 c) s = .next t → exec (.rwStatus1 c) s' = .next t' →
      t.block.gate1 = t'.block.gate1 ∧ t.block.gate1 = decide (c &&& 0x07 = 0x05)) ∧
    (s.params.variant = .capable → s'.params.variant = .capable →
      exec (.rwStatus2 c) s = .next t → exec (.rwStatus2 c) s' = .next t' →
      t.block.gate2 = t'.block.gate2 ∧ t.block.gate2 = decide (c &&& 0x07 = 0x05))

/-- O17. In CAPABLE: RW.STATUS1 leaves GATE2 and T2SB, and changing them beforehand changes nothing else of its result;
RW.STATUS2 leaves GATE1, and changing it beforehand changes nothing else of its result; and from every state every pair of
gate values is reached by one status write of each tier, in either order. -/
def Obligations.TheTwoGatesAreIndependent : Prop :=
  ∀ s : State, s.params.variant = .capable →
    (∀ (c : Byte) (g : Bool) (x : Byte), ∃ t, exec (.rwStatus1 c) s = .next t ∧
      t.block.gate2 = s.block.gate2 ∧ t.block.t2sb = s.block.t2sb ∧
      exec (.rwStatus1 c) (s.setBlock { s.block with gate2 := g, t2sb := x }) =
        .next (t.setBlock { t.block with gate2 := g, t2sb := x })) ∧
    (∀ (c : Byte) (g : Bool), ∃ t, exec (.rwStatus2 c) s = .next t ∧ t.block.gate1 = s.block.gate1 ∧
      exec (.rwStatus2 c) (s.setBlock { s.block with gate1 := g }) = .next (t.setBlock { t.block with gate1 := g })) ∧
    (∀ g1 g2 : Bool, ∃ c1 c2 t u,
      runAll [.rwStatus1 c1, .rwStatus2 c2] s = .next t ∧ t.block.gate1 = g1 ∧ t.block.gate2 = g2 ∧
      runAll [.rwStatus2 c2, .rwStatus1 c1] s = .next u ∧ u.block.gate1 = g1 ∧ u.block.gate2 = g2)

/-- O18. Whatever the operation and the state: GATE1 changes only by RW.STATUS1 or RESET, GATE2 and T2SB only by RW.STATUS2 in
CAPABLE or RESET, BANK, AOFFB, MEMSIZE, VSEL, CRTCLOCK and VCTL only by their own RW with GATE1 true or RESET, and SCRATCH
only by RW.SCRATCH in CAPABLE with GATE2 true or RESET. -/
def Obligations.EachFieldHasItsOwnWriterAndReset : Prop :=
  ∀ (i : Instr) (s t : State), exec i s = .next t → i ≠ .reset →
    (t.block.gate1 ≠ s.block.gate1 → ∃ d, i = .rwStatus1 d) ∧
    (t.block.gate2 ≠ s.block.gate2 → s.params.variant = .capable ∧ ∃ d, i = .rwStatus2 d) ∧
    (t.block.t2sb ≠ s.block.t2sb → s.params.variant = .capable ∧ ∃ d, i = .rwStatus2 d) ∧
    (t.block.bank ≠ s.block.bank → s.block.gate1 = true ∧ ∃ d, i = .rwAoffa d) ∧
    (t.block.aoffb ≠ s.block.aoffb → s.block.gate1 = true ∧ ∃ d, i = .rwAoffb d) ∧
    (t.block.memsize ≠ s.block.memsize → s.block.gate1 = true ∧ ∃ d, i = .rwMemsize d) ∧
    (t.block.vsel ≠ s.block.vsel → s.block.gate1 = true ∧ ∃ d, i = .rwVsel d) ∧
    (t.block.crtclock ≠ s.block.crtclock → s.block.gate1 = true ∧ ∃ d, i = .rwCrtclock d) ∧
    (t.block.vctl ≠ s.block.vctl → s.block.gate1 = true ∧ ∃ d, i = .rwVctl d) ∧
    (t.block.scratch ≠ s.block.scratch → s.params.variant = .capable ∧ s.block.gate2 = true ∧ ∃ d, i = .rwScratch d)

/-- O19. In every state, the status write of tier 1 followed at once by any tier-1 operation: a read returns the register's
readback if the code unlocks and 0xFF if it does not, a write stores or is discarded accordingly; in CAPABLE the same of
tier 2 with its scratch register, and of its reserved offsets, which stay inert for reads and writes. The readback of AOFFB
is under AOFFB_MASK (D4, log 16), T2SB becomes code & 0x70 (D5, D21; log 14, log 15), and reserved offsets keep nothing
(D20, log 20). -/
def Obligations.StatusWriteSwitchesTheViewAtOnce : Prop :=
  ∀ (s : State) (c d : Byte),
    (∀ r : GcReg, r ≠ .status1 →
      RunReturns [.rwStatus1 c, r.readInstr] s
        [if c &&& 0x07 = 0x05 then gcReadback s.params.aoffbMask s.block r else 0xFF]
        { s.block with gate1 := decide (c &&& 0x07 = 0x05) } ∧
      RunReturns [.rwStatus1 c, r.writeInstr d] s []
        (if c &&& 0x07 = 0x05 then { gcWritten s.block r d with gate1 := true } else { s.block with gate1 := false })) ∧
    (s.params.variant = .capable →
      RunReturns [.rwStatus2 c, .rrScratch] s [if c &&& 0x07 = 0x05 then s.block.scratch else 0xFF]
        { s.block with gate2 := decide (c &&& 0x07 = 0x05), t2sb := c &&& 0x70 } ∧
      RunReturns [.rwStatus2 c, .rwScratch d] s []
        { s.block with gate2 := decide (c &&& 0x07 = 0x05), t2sb := c &&& 0x70,
                       scratch := if c &&& 0x07 = 0x05 then d else s.block.scratch } ∧
      (∀ r : CrtcReg, r.reserved = true →
        RunReturns [.rwStatus2 c, r.readInstr] s [0xFF]
          { s.block with gate2 := decide (c &&& 0x07 = 0x05), t2sb := c &&& 0x70 } ∧
        RunReturns [.rwStatus2 c, r.writeInstr d] s []
          { s.block with gate2 := decide (c &&& 0x07 = 0x05), t2sb := c &&& 0x70 }))

/-- O20. With GATE1 false the read of each of the six guarded tier-1 registers, and in CAPABLE with GATE2 false the read of each
of the twenty-two guarded tier-2 registers (SCRATCH and the reserved ones), completes, returns 0xFF whatever is stored,
offers LockedRead with the register's offset, and changes nothing else. -/
def Obligations.LockedReadsReturnTheSentinel : Prop :=
  ∀ s : State,
    (s.block.gate1 = false → ∀ r : GcReg, r ≠ .status1 →
      AnswersInside r.readInstr s 0xFF [.lockedRead .one (s.params.gcOffset r)]) ∧
    (s.params.variant = .capable → s.block.gate2 = false → ∀ r : CrtcReg, r ≠ .status2 →
      AnswersInside r.readInstr s 0xFF [.lockedRead .two (s.params.crtcOffset r)])

/-- O21. With GATE1 false the write of each of the six guarded tier-1 registers, and in CAPABLE with GATE2 false of each of the
twenty-two guarded tier-2 registers, completes, offers LockedWrite with the offset and the byte, and changes nothing at all,
so nothing is buffered and WindowEnable and BANK stay. -/
def Obligations.LockedWritesAreDiscarded : Prop :=
  ∀ (s : State) (d : Byte),
    (s.block.gate1 = false → ∀ r : GcReg, r ≠ .status1 →
      StoresInside (r.writeInstr d) s s.block [.lockedWrite .one (s.params.gcOffset r) d]) ∧
    (s.params.variant = .capable → s.block.gate2 = false → ∀ r : CrtcReg, r ≠ .status2 →
      StoresInside (r.writeInstr d) s s.block [.lockedWrite .two (s.params.crtcOffset r) d])

/-- O22. In CAPABLE the read of each of the twenty-one reserved registers (RSVD2A, RSVD2C to RSVD3F) completes in every state,
whatever GATE2 is, returns 0xFF, offers LockedRead(2, offset), calls no baseline primitive and changes nothing else. -/
def Obligations.ReservedReadsReturnTheSentinel : Prop :=
  ∀ (s : State) (r : CrtcReg), s.params.variant = .capable → r.reserved = true →
    AnswersInside r.readInstr s 0xFF [.lockedRead .two (s.params.crtcOffset r)]

/-- O23. In CAPABLE the write of each of the twenty-one reserved registers completes in every state, whatever GATE2 is, offers
LockedWrite(2, offset, data) and changes nothing else (no storage and no forwarding by D20, log 20); a read of the same
register right after returns 0xFF. -/
def Obligations.ReservedWritesAreDiscarded : Prop :=
  ∀ (s : State) (r : CrtcReg) (d : Byte), s.params.variant = .capable → r.reserved = true →
    StoresInside (r.writeInstr d) s s.block [.lockedWrite .two (s.params.crtcOffset r) d] ∧
    RunReturns [r.writeInstr d, r.readInstr] s [0xFF] s.block

/-- O24. An RR word of GC outside 0x09 to 0x0F, of CRTC outside 0x29 to 0x3F, or (by D17, log 19) of any CRTC offset in BASE,
decodes to the delegated read of that offset on every instance, whatever the ignored byte; and the delegated read completes
in every state: exactly the call BaseRegRead(space, offset) is made, its byte is returned, and nothing else changes. What
the baseline returns is a free value (log 4). -/
def Obligations.UnclaimedReadsAreDelegated : Prop :=
  (∀ (p : Params) (a d : Byte), ¬(0x09 ≤ a.toNat ∧ a.toNat ≤ 0x0F) →
    decode p (regWord 1 .gc a d) = .ok (.rrGcBase a)) ∧
  (∀ (p : Params) (a d : Byte), (p.variant = .base ∨ ¬(0x29 ≤ a.toNat ∧ a.toNat ≤ 0x3F)) →
    decode p (regWord 1 .crtc a d) = .ok (.rrCrtcBase a)) ∧
  (∀ (s : State) (a : Byte),
    AnswersFromBaseline (.rrGcBase a) s (.regRead .gc a) (s.baseReadValue .gc a) ∧
    AnswersFromBaseline (.rrCrtcBase a) s (.regRead .crtc a) (s.baseReadValue .crtc a))

/-- O25. An RW word of an unclaimed offset (in BASE of any CRTC offset, D17, log 19) decodes to the delegated write; and the
delegated write completes in every state: exactly the call BaseRegWrite(space, offset, data) is made and no field of the
block changes; of the bytes the model keeps for the baseline's registers only that one changes (log 5). -/
def Obligations.UnclaimedWritesAreDelegated : Prop :=
  (∀ (p : Params) (a d : Byte), ¬(0x09 ≤ a.toNat ∧ a.toNat ≤ 0x0F) →
    decode p (regWord 2 .gc a d) = .ok (.rwGcBase a d)) ∧
  (∀ (p : Params) (a d : Byte), (p.variant = .base ∨ ¬(0x29 ≤ a.toNat ∧ a.toNat ≤ 0x3F)) →
    decode p (regWord 2 .crtc a d) = .ok (.rwCrtcBase a d)) ∧
  (∀ (s : State) (a d : Byte),
    HandsRegister (.rwGcBase a d) s .gc a d ∧ HandsRegister (.rwCrtcBase a d) s .crtc a d)

/-- O26. On a BASE instance, every tier-2 operation acts as the delegated access of its register's offset: exactly that baseline
call, no field of the block changed; and the decoder gives the delegated rows for every CRTC offset, so RW CRTC,0x29,0x05 is
BaseRegWrite(CRTC, 0x29, 0x05) (log 13, log 19). -/
def Obligations.TierTwoIsDelegatedInBase : Prop :=
  (∀ (s : State) (r : CrtcReg) (d : Byte), s.params.variant = .base →
    AnswersFromBaseline r.readInstr s (.regRead .crtc (s.params.crtcOffset r))
      (s.baseReadValue .crtc (s.params.crtcOffset r)) ∧
    HandsRegister (r.writeInstr d) s .crtc (s.params.crtcOffset r) d) ∧
  (∀ (p : Params) (a d : Byte), p.variant = .base →
    decode p (regWord 1 .crtc a d) = .ok (.rrCrtcBase a) ∧ decode p (regWord 2 .crtc a d) = .ok (.rwCrtcBase a d))

/-- O27. If no call made so far names a claimed offset then none made after a step does, in any gate state, on any instance with
legal parameters; and State.reset, with no call made, meets it. -/
def Obligations.ClaimedAccessesNeverReachTheBaseline : Prop :=
  (∀ s t : State, s.params.wf = true → s.OnlyUnclaimedCalls → step s = .next t → t.OnlyUnclaimedCalls) ∧
  State.reset.OnlyUnclaimedCalls

/-- O28. For every guarded register of an unlocked tier (tier 1 in both variants, tier 2 in CAPABLE), every locking code,
unlocking code and byte: read, lock, read, write, unlock, read returns v, 0xFF, v, where v is the register's readback (0xFF
for a reserved one); and the block ends as it began, but for T2SB, which the tier-2 unlocking code rewrites. The readback of
AOFFB is under AOFFB_MASK (D4, log 16); T2SB becomes code & 0x70 (D5, D21; log 14, log 15). -/
def Obligations.RelockingHidesAndUnlockingReveals : Prop :=
  ∀ (s : State) (lock unlock d : Byte), lock &&& 0x07 ≠ 0x05 → unlock &&& 0x07 = 0x05 →
    (s.block.gate1 = true → ∀ r : GcReg, r ≠ .status1 →
      RunReturns [r.readInstr, .rwStatus1 lock, r.readInstr, r.writeInstr d, .rwStatus1 unlock, r.readInstr] s
        [gcReadback s.params.aoffbMask s.block r, 0xFF, gcReadback s.params.aoffbMask s.block r] s.block) ∧
    (s.params.variant = .capable → s.block.gate2 = true → ∀ r : CrtcReg, r ≠ .status2 →
      RunReturns [r.readInstr, .rwStatus2 lock, r.readInstr, r.writeInstr d, .rwStatus2 unlock, r.readInstr] s
        [if r = .scratch then s.block.scratch else 0xFF, 0xFF, if r = .scratch then s.block.scratch else 0xFF]
        { s.block with t2sb := unlock &&& 0x70 })

/-- O29. From a state with tier 1 locked, writing any guarded register first makes no difference to unlocking, reading any
register and then reading or writing memory: the bytes returned, the block, the baseline calls with their addresses, and
every kept byte are the same; in CAPABLE the same of tier 2. -/
def Obligations.LockedWritesAreNeverRevealed : Prop :=
  ∀ (s : State) (c d e : Byte) (off : Nat) (m : Instr), m = .mr off ∨ m = .mw off e →
    (s.block.gate1 = false → ∀ r r' : GcReg, r ≠ .status1 →
      ∃ t u, runAll [r.writeInstr d, .rwStatus1 c, r'.readInstr, m] s = .next t ∧
        runAll [.rwStatus1 c, r'.readInstr, m] s = .next u ∧
        t.returned = u.returned ∧ t.block = u.block ∧ t.calls = u.calls ∧ t.SameBytes u) ∧
    (s.params.variant = .capable → s.block.gate2 = false → ∀ r r' : CrtcReg, r ≠ .status2 →
      ∃ t u, runAll [r.writeInstr d, .rwStatus2 c, r'.readInstr, m] s = .next t ∧
        runAll [.rwStatus2 c, r'.readInstr, m] s = .next u ∧
        t.returned = u.returned ∧ t.block = u.block ∧ t.calls = u.calls ∧ t.SameBytes u)

/-- O30. Replacing the sink's trace and its counter of offered notices by any others changes nothing else of what an operation
or a step leaves: the block, the instance, the stores, the calls and the returned bytes are the same. -/
def Obligations.SinkNeverAffectsBehaviour : Prop :=
  ∀ (s : State) (ns : List Notice) (k : Nat),
    (∀ (i : Instr) (t : State), exec i s = .next t →
      ∃ u, exec i { s with notices := ns, offered := k } = .next u ∧
        { u with notices := t.notices, offered := t.offered } = t) ∧
    (∀ t : State, step s = .next t →
      ∃ u, step { s with notices := ns, offered := k } = .next u ∧
        { u with notices := t.notices, offered := t.offered } = t)

/-- O31. With GATE1 true RR.AOFFA completes, returns BANK zero-extended to a byte (below 0x80, bit 7 clear), and changes
nothing. -/
def Obligations.AoffaReadReturnsTheBank : Prop :=
  ∀ s : State, s.block.gate1 = true →
    AnswersInside .rrAoffa s (s.block.bank.setWidth 8) [] ∧
    (s.block.bank.setWidth 8).toNat < 0x80 ∧ (s.block.bank.setWidth 8).getLsbD 7 = false

/-- O32. With GATE1 true RW.AOFFA completes: BANK becomes the low seven bits of data, nothing else changes (WindowEnable
included), a read back returns data with bit 7 clear, and an MR or MW right after is at translate(offset) with the new bank,
which is offset + (data mod 128) * 4096 if WINEN, else offset. -/
def Obligations.AoffaWriteSelectsTheBank : Prop :=
  ∀ (s : State) (d : Byte) (off : Nat), s.block.gate1 = true →
    StoresInside (.rwAoffa d) s { s.block with bank := d.setWidth 7 } [.regWrite (.gc .aoffa) d] ∧
    RunReturns [.rwAoffa d, .rrAoffa] s [d &&& 0x7F] { s.block with bank := d.setWidth 7 } ∧
    Block.translate { s.block with bank := d.setWidth 7 } off =
      (if s.block.vctl.getLsbD 0 then off + d.toNat % 128 * 4096 else off) ∧
    NextMemoryAccessAt (.rwAoffa d) s off (Block.translate { s.block with bank := d.setWidth 7 } off)

/-- O33. With GATE1 true RW.AOFFB completes and stores the whole byte in AOFFB only; RR.AOFFB completes and returns the stored
byte under the instance's AOFFB_MASK (D4, log 16); and an MR or MW after the write is at the address it would have had
before it. -/
def Obligations.AoffbIsStoredReadBackAndSteersNothing : Prop :=
  ∀ (s : State) (d : Byte) (off : Nat), s.block.gate1 = true →
    StoresInside (.rwAoffb d) s { s.block with aoffb := d } [.regWrite (.gc .aoffb) d] ∧
    AnswersInside .rrAoffb s (s.block.aoffb &&& s.params.aoffbMask) [] ∧
    NextMemoryAccessAt (.rwAoffb d) s off (s.block.translate off)

/-- O34. With GATE1 true RR.MEMSIZE completes and returns 0xC0 | (MEMSIZE & 0x3F), whose two top bits are set whatever is
stored, and changes nothing, MEMSIZE included. -/
def Obligations.MemsizeReadForcesTheTopBits : Prop :=
  ∀ s : State, s.block.gate1 = true →
    AnswersInside .rrMemsize s (0xC0 ||| (s.block.memsize &&& 0x3F)) [] ∧
    (0xC0 ||| (s.block.memsize &&& 0x3F)) &&& 0xC0 = 0xC0

/-- O35. With GATE1 true RW.MEMSIZE completes: MEMSIZE becomes data, all eight bits, nothing else changes, a read back returns
0xC0 | (data & 0x3F), and an MR or MW after it is at the address it would have had before (D19, log 17). -/
def Obligations.MemsizeWriteStoresTheWholeByte : Prop :=
  ∀ (s : State) (d : Byte) (off : Nat), s.block.gate1 = true →
    StoresInside (.rwMemsize d) s { s.block with memsize := d } [.regWrite (.gc .memsize) d] ∧
    RunReturns [.rwMemsize d, .rrMemsize] s [0xC0 ||| (d &&& 0x3F)] { s.block with memsize := d } ∧
    NextMemoryAccessAt (.rwMemsize d) s off (s.block.translate off)

/-- O36. With GATE1 true each of RR.VSEL, RR.CRTCLOCK and RR.VCTL completes, returns its stored byte and changes nothing; bit 0
of the VCTL byte is WindowEnable; every byte written is read back as written; and after RESET and the unlocking write of
0x05 each reads 0x00 (the reset values are the spec's decision D6, log 10). -/
def Obligations.PlainRegistersReadAsStored : Prop :=
  ∀ s : State,
    (s.block.gate1 = true →
      AnswersInside .rrVsel s s.block.vsel [] ∧
      AnswersInside .rrCrtclock s s.block.crtclock [] ∧
      AnswersInside .rrVctl s s.block.vctl [] ∧ s.block.winEn = s.block.vctl.getLsbD 0 ∧
      ∀ d : Byte,
        RunReturns [.rwVsel d, .rrVsel] s [d] { s.block with vsel := d } ∧
        RunReturns [.rwCrtclock d, .rrCrtclock] s [d] { s.block with crtclock := d } ∧
        RunReturns [.rwVctl d, .rrVctl] s [d] { s.block with vctl := d }) ∧
    ∃ b, RunReturns [.reset, .rwStatus1 0x05, .rrVsel, .rrCrtclock, .rrVctl] s [0x00, 0x00, 0x00] b

/-- O37. With GATE1 true each of RW.VSEL, RW.CRTCLOCK and RW.VCTL completes, stores data whole in its own field and changes
nothing else (no gate, no view, no BANK); after RW.VCTL WindowEnable is bit 0 of data, true exactly for the odd bytes, and
the very next MR or MW is translated with it. -/
def Obligations.PlainRegistersStoreTheWholeByte : Prop :=
  ∀ (s : State) (d : Byte) (off : Nat), s.block.gate1 = true →
    StoresInside (.rwVsel d) s { s.block with vsel := d } [.regWrite (.gc .vsel) d] ∧
    StoresInside (.rwCrtclock d) s { s.block with crtclock := d } [.regWrite (.gc .crtclock) d] ∧
    StoresInside (.rwVctl d) s { s.block with vctl := d } [.regWrite (.gc .vctl) d] ∧
    (Block.winEn { s.block with vctl := d } = true ↔ d.toNat % 2 = 1) ∧
    Block.translate { s.block with vctl := d } off =
      (if d.getLsbD 0 then off + s.block.bank.toNat * 4096 else off) ∧
    NextMemoryAccessAt (.rwVctl d) s off (Block.translate { s.block with vctl := d } off)

/-- O38. In CAPABLE with GATE2 true, whatever GATE1 is, RW.SCRATCH completes and stores the whole byte in SCRATCH only (T2SB
unchanged), and RR.SCRATCH completes and returns the stored byte, changing nothing (its place by D3, log 2). -/
def Obligations.ScratchIsAPlainByteStore : Prop :=
  ∀ (s : State) (d : Byte), s.params.variant = .capable → s.block.gate2 = true →
    StoresInside (.rwScratch d) s { s.block with scratch := d } [.regWrite (.crtc .scratch) d] ∧
    AnswersInside .rrScratch s s.block.scratch []

/-- O39. With GATE1 true every tier-1 read of a guarded register returns the readback of the table of R41 and offers nothing,
and every tier-1 write leaves the block of that table and offers only the register write; in CAPABLE with GATE2 true the
same of SCRATCH, tier 2's one real handler; nothing else changes. AOFFB reads under AOFFB_MASK (R79, D4; log 16); what is
offered to the sink is log 9's choice. -/
def Obligations.UnlockedAccessesFollowTheOperandTable : Prop :=
  ∀ (s : State) (d : Byte),
    (s.block.gate1 = true → ∀ r : GcReg, r ≠ .status1 →
      AnswersInside r.readInstr s (gcReadback s.params.aoffbMask s.block r) [] ∧
      StoresInside (r.writeInstr d) s (gcWritten s.block r d) [.regWrite (.gc r) d]) ∧
    (s.params.variant = .capable → s.block.gate2 = true →
      AnswersInside .rrScratch s s.block.scratch [] ∧
      StoresInside (.rwScratch d) s { s.block with scratch := d } [.regWrite (.crtc .scratch) d])

/-- O40. Every RR row and MR leaves the block, the instance and every kept byte as they were, and a register read of a claimed
offset done twice returns the same byte twice; every RW row, MW and RESET performed twice in a row leaves the block and
every kept byte as performing it once does (canonical stores premised). -/
def Obligations.ReadsChangeNothingAndWritesAreIdempotent : Prop :=
  ∀ (s t u : State) (i : Instr), exec i s = .next t → exec i t = .next u →
    ((∃ v, t.returned = s.returned ++ [v]) → t.block = s.block ∧ s.SameBytes t ∧ s.SameInstance t) ∧
    (∀ v, t.returned = s.returned ++ [v] → t.calls = s.calls → u.returned = s.returned ++ [v, v]) ∧
    (t.returned = s.returned → s.Inv → u.block = t.block ∧ t.SameBytes u)

/-- O41. Every operation returns one byte if its word is an RR or MR (KIND 1 or 3) and none otherwise, and makes at most one
call of a baseline primitive; MR and MW make exactly one. -/
def Obligations.EveryAccessMovesAtMostOneByte : Prop :=
  ∀ (i : Instr) (s t : State), exec i s = .next t →
    ((((encode s.params i).toNat / 2 ^ 28 = 1 ∨ (encode s.params i).toNat / 2 ^ 28 = 3) ∧
        ∃ v, t.returned = s.returned ++ [v]) ∨
      ((encode s.params i).toNat / 2 ^ 28 ≠ 1 ∧ (encode s.params i).toNat / 2 ^ 28 ≠ 3 ∧ t.returned = s.returned)) ∧
    ((t.calls = s.calls ∧ (encode s.params i).toNat / 2 ^ 28 ≠ 3 ∧ (encode s.params i).toNat / 2 ^ 28 ≠ 4) ∨
      ∃ c, t.calls = s.calls ++ [c])

/-- O42. With bit 0 of VCTL clear, MR and MW of every offset complete with exactly the baseline call at that offset itself,
whatever BANK holds. -/
def Obligations.DisabledWindowPassesTheOffsetThrough : Prop :=
  ∀ (s : State) (off : Nat) (d : Byte), s.block.vctl.getLsbD 0 = false →
    s.block.translate off = off ∧
    AnswersFromBaseline (.mr off) s (.memRead off) (s.memReadValue off) ∧
    HandsMemory (.mw off d) s off d

/-- O43. With bit 0 of VCTL set, MR and MW of every offset complete with exactly the baseline call at offset + BANK * 4096,
which is the offset plus the bank placed at bits 18 to 12. -/
def Obligations.EnabledWindowAddsTheBank : Prop :=
  ∀ (s : State) (off : Nat) (d : Byte), s.block.vctl.getLsbD 0 = true →
    s.block.translate off = off + s.block.bank.toNat * 4096 ∧
    s.block.translate off = off + (s.block.bank ++ (0 : BitVec 12)).toNat ∧
    AnswersFromBaseline (.mr off) s (.memRead (off + s.block.bank.toNat * 4096))
      (s.memReadValue (off + s.block.bank.toNat * 4096)) ∧
    HandsMemory (.mw off d) s (off + s.block.bank.toNat * 4096) d

/-- O44. In every state, whatever the gates, MR of every offset completes: exactly the call MemRead(translate(offset), 1) is
made, its byte is returned unaltered, and nothing else changes. That the gates play no part is decision D11 (log 17); the
byte is a free value but on the reference baseline (log 4, log 5). -/
def Obligations.MemoryReadGoesThroughTheWindow : Prop :=
  ∀ (s : State) (off : Nat),
    AnswersFromBaseline (.mr off) s
      (.memRead (if s.block.vctl.getLsbD 0 then off + s.block.bank.toNat * 4096 else off))
      (s.memReadValue (if s.block.vctl.getLsbD 0 then off + s.block.bank.toNat * 4096 else off))

/-- O45. In every state, whatever the gates, MW of every offset and byte completes: exactly the call MemWrite(translate(offset),
1, data) is made with the byte unchanged, every other byte of the store reads as before, no register of the block or of the
baseline changes. That the gates play no part is decision D11 (log 17); the bytes kept are log 5's store. -/
def Obligations.MemoryWriteGoesThroughTheWindow : Prop :=
  ∀ (s : State) (off : Nat) (d : Byte),
    HandsMemory (.mw off d) s (if s.block.vctl.getLsbD 0 then off + s.block.bank.toNat * 4096 else off) d

/-- O46. In every state of either variant there is one address ea such that MR of the offset makes the call MemRead(ea, 1) and
MW of it makes MemWrite(ea, 1, data), and ea is the same when VARIANT is the other one. -/
def Obligations.OneTranslationServesReadsAndWrites : Prop :=
  ∀ (s : State) (off : Nat) (d : Byte) (v : Variant), ∃ ea t u t' u',
    exec (.mr off) s = .next t ∧ t.calls = s.calls ++ [.memRead ea] ∧
    exec (.mw off d) s = .next u ∧ u.calls = s.calls ++ [.memWrite ea d] ∧
    exec (.mr off) { s with params := { s.params with variant := v } } = .next t' ∧
    t'.calls = s.calls ++ [.memRead ea] ∧
    exec (.mw off d) { s with params := { s.params with variant := v } } = .next u' ∧
    u'.calls = s.calls ++ [.memWrite ea d]

/-- O47. For every block and every offset of OFFSET_BITS bits, translate(offset) is below 2^EA_BITS with EA_BITS =
max(OFFSET_BITS, 19) + 1; at OFFSET_BITS = 16 it is at most 0x8EFFF, and that value is reached (no wrap by D9, log 18). -/
def Obligations.EffectiveAddressFitsInItsBits : Prop :=
  (∀ (b : Block) (n off : Nat), off < 2 ^ n → b.translate off < 2 ^ (max n 19 + 1)) ∧
  (∀ (b : Block) (off : Nat), off < 2 ^ 16 → b.translate off ≤ 0x8EFFF) ∧
  (∃ (b : Block) (off : Nat), off < 2 ^ 16 ∧ b.translate off = 0x8EFFF)

/-- O48. With the window enabled, for every offset o and every bank b below 127, a write at o + 4096 under bank b and a write at
o under bank b + 1 make the same baseline call. -/
def Obligations.AdjacentBanksOverlap : Prop :=
  ∀ (s : State) (off : Nat) (d : Byte), s.block.vctl.getLsbD 0 = true → s.block.bank.toNat < 127 →
    ∃ t u, exec (.mw (off + 4096) d) s = .next t ∧
      exec (.mw off d) (s.setBlock { s.block with bank := s.block.bank + 1 }) = .next u ∧ t.calls = u.calls

/-- O49. If BANK and bit 0 of VCTL agree, then MR and MW of an offset are at the same address in both states, whatever the
gates, AOFFB, MEMSIZE, VSEL, CRTCLOCK, bits 7 to 1 of VCTL, T2SB, SCRATCH and the parameters hold (D4, D11, D19; log 16, log
17). -/
def Obligations.OnlyBankAndWindowEnableSteerMemory : Prop :=
  ∀ (s s' : State) (off : Nat) (d : Byte),
    s.block.bank = s'.block.bank → s.block.vctl.getLsbD 0 = s'.block.vctl.getLsbD 0 →
    ∃ ea t u t' u', exec (.mr off) s = .next t ∧ t.calls = s.calls ++ [.memRead ea] ∧
      exec (.mr off) s' = .next t' ∧ t'.calls = s'.calls ++ [.memRead ea] ∧
      exec (.mw off d) s = .next u ∧ u.calls = s.calls ++ [.memWrite ea d] ∧
      exec (.mw off d) s' = .next u' ∧ u'.calls = s'.calls ++ [.memWrite ea d]

/-- O50. Whatever the operation and state, BANK changes only by RW.AOFFA with GATE1 true or by RESET and WindowEnable only by
RW.VCTL with GATE1 true or by RESET; after RESET translate(offset) = offset, BANK is 0 and WINEN false; RW.AOFFA does not
change VCTL nor RW.VCTL BANK; and with GATE1 true writing them in either order leaves the same block. -/
def Obligations.WindowChangesByThreeOperationsOnly : Prop :=
  (∀ (i : Instr) (s t : State), exec i s = .next t →
    (t.block.bank ≠ s.block.bank → i = .reset ∨ (s.block.gate1 = true ∧ ∃ d, i = .rwAoffa d)) ∧
    (t.block.winEn ≠ s.block.winEn → i = .reset ∨ (s.block.gate1 = true ∧ ∃ d, i = .rwVctl d))) ∧
  (∀ s : State, ∃ t, exec .reset s = .next t ∧ t.block.bank = 0 ∧ t.block.winEn = false ∧
    ∀ off, t.block.translate off = off) ∧
  (∀ (s : State) (b v : Byte), ∃ t u, exec (.rwAoffa b) s = .next t ∧ t.block.vctl = s.block.vctl ∧
    exec (.rwVctl v) s = .next u ∧ u.block.bank = s.block.bank) ∧
  (∀ (s : State) (b v : Byte), s.block.gate1 = true →
    RunReturns [.rwAoffa b, .rwVctl v] s [] { s.block with bank := b.setWidth 7, vctl := v } ∧
    RunReturns [.rwVctl v, .rwAoffa b] s [] { s.block with bank := b.setWidth 7, vctl := v })

/-- O51. Changing VARIANT beforehand changes nothing else of what MR and MW leave. -/
def Obligations.MemoryOperationsIgnoreTheVariant : Prop :=
  ∀ (s : State) (v : Variant) (off : Nat) (d : Byte), ∃ t u,
    exec (.mr off) s = .next t ∧
    exec (.mr off) { s with params := { s.params with variant := v } } =
      .next { t with params := { t.params with variant := v } } ∧
    exec (.mw off d) s = .next u ∧
    exec (.mw off d) { s with params := { s.params with variant := v } } =
      .next { u with params := { u.params with variant := v } }

/-- O52. On an instance over the reference baseline (the spec's own, D10, and a premise here; log 5), in a state with canonical
stores: MW then MR at an address inside the array returns the byte written and MR at any other such address returns what it
returned before; a delegated register write then read returns the byte written. -/
def Obligations.ReferenceBaselineReadsBackWhatWasWritten : Prop :=
  ∀ (s : State) (off off' : Nat) (a d : Byte), s.Inv → s.params.baseline = .reference →
    (s.block.translate off < 2 ^ 20 → RunReturns [.mw off d, .mr off] s [d] s.block) ∧
    (s.block.translate off' < 2 ^ 20 → s.block.translate off' ≠ s.block.translate off →
      RunReturns [.mw off d, .mr off'] s [s.memByte (s.block.translate off')] s.block ∧
      RunReturns [.mr off'] s [s.memByte (s.block.translate off')] s.block) ∧
    RunReturns [.rwGcBase a d, .rrGcBase a] s [d] s.block ∧
    RunReturns [.rwCrtcBase a d, .rrCrtcBase a] s [d] s.block

/-- O53. From any state RESET completes: both gates false, BANK 0 and every register 0x00 (the values beyond the source's four
are D6, log 10), whatever was there; the parameters, the backing store, the baseline's registers, the calls, the returned
bytes and the pending operations are as before. -/
def Obligations.ResetOperationRestoresEveryField : Prop :=
  ∀ s : State, StoresInside .reset s
    { gate1 := false, gate2 := false, bank := 0, aoffb := 0x00, memsize := 0x00, vsel := 0x00, crtclock := 0x00,
      vctl := 0x00, t2sb := 0x00, scratch := 0x00 } []

/-- O54. State.reset holds the reset value of each field (D6, D7; log 10, log 11) and the spec's default parameters, the address
map of R33 among them (log 2), on a CAPABLE instance (log 1); no byte is listed, no call made, no byte returned, nothing
offered, nothing pending. -/
def Obligations.MachineStartsInTheResetState : Prop :=
  State.reset.block =
    { gate1 := false, gate2 := false, bank := 0, aoffb := 0x00, memsize := 0x00, vsel := 0x00, crtclock := 0x00,
      vctl := 0x00, t2sb := 0x00, scratch := 0x00 } ∧
  State.reset.params.variant = .capable ∧ State.reset.params.offsetBits = 16 ∧
  State.reset.params.aoffbMask = 0xFF ∧ State.reset.params.baseline = .oracle ∧
  State.reset.params.gcMap = #v[.aoffa, .aoffb, .memsize, .vsel, .crtclock, .vctl, .status1] ∧
  State.reset.params.crtcMap =
    #v[.status2, .rsvd2A, .scratch, .rsvd2C, .rsvd2D, .rsvd2E, .rsvd2F, .rsvd30, .rsvd31, .rsvd32, .rsvd33, .rsvd34,
       .rsvd35, .rsvd36, .rsvd37, .rsvd38, .rsvd39, .rsvd3A, .rsvd3B, .rsvd3C, .rsvd3D, .rsvd3E, .rsvd3F] ∧
  State.reset.mem = [] ∧ State.reset.gcBase = [] ∧ State.reset.crtcBase = [] ∧ State.reset.calls = [] ∧
  State.reset.returned = [] ∧ State.reset.notices = [] ∧ State.reset.offered = 0 ∧ State.reset.pending = []

/-- O55. From any state: RESET, RR.STATUS1, RR.MEMSIZE, RW.STATUS1 with an unlocking code, then RR of MEMSIZE, AOFFA, AOFFB,
VSEL, CRTCLOCK, VCTL, returns 0x00, 0xFF, 0xC0 and five times 0x00; in CAPABLE RESET, RR.STATUS2, RR.SCRATCH, RW.STATUS2
with 0x05, RR.SCRATCH returns 0x00, 0xFF, 0x00 (values by D6, log 10). -/
def Obligations.ResetIsSeenOnTheBusAfterUnlocking : Prop :=
  ∀ (s : State) (c : Byte), c &&& 0x07 = 0x05 →
    (∃ b, RunReturns [.reset, .rrStatus1, .rrMemsize, .rwStatus1 c, .rrMemsize, .rrAoffa, .rrAoffb, .rrVsel, .rrCrtclock,
      .rrVctl] s [0x00, 0xFF, 0xC0, 0x00, 0x00, 0x00, 0x00, 0x00] b) ∧
    (s.params.variant = .capable → ∃ b, RunReturns [.reset, .rrStatus2, .rrScratch, .rwStatus2 0x05, .rrScratch] s
      [0x00, 0xFF, 0x00] b)

/-- O56. From every state that meets the invariant (legal parameters; T2SB within bits 6 to 4; in BASE the tier-2 fields at
reset; the three stores in canonical form; no more notices taken than offered), a step that answers a next state answers one
that meets it. -/
def Obligations.EveryStepKeepsTheInvariant : Prop :=
  ∀ s t : State, s.Inv → step s = .next t → t.Inv

/-- O57. The state right after reset meets the invariant that every step keeps, whatever the legal parameters. -/
def Obligations.ResetStateMeetsTheInvariant : Prop :=
  State.reset.Inv ∧ ∀ p : Params, p.wf = true → (State.resetOn p).Inv

/-- O58. Whatever the operation, the parameters after it are the parameters before it, and it leaves the pending operations
alone; a step leaves the parameters alone and takes exactly one word off the pending list. -/
def Obligations.NoOperationChangesTheInstance : Prop :=
  (∀ (i : Instr) (s t : State), exec i s = .next t → t.params = s.params ∧ t.pending = s.pending) ∧
  (∀ s t : State, step s = .next t → t.params = s.params ∧ ∃ w, s.pending = w :: t.pending)

/-- O59. Take a CAPABLE and a BASE instance that agree on everything but VARIANT, the tier-2 fields and the sink, with the same
pending words, none of them an RR or RW of CRTC 0x29 to 0x3F. After any number of steps both answer a next state and agree
again (so the same returned bytes, the same calls, the same seven shared fields), or both are refused for the same reason. -/
def Obligations.BaseAndCapableAgreeOffTierTwo : Prop :=
  ∀ (n : Nat) (c b : State), VariantsAlike c b →
    (∀ w ∈ c.pending, ¬((w.toNat / 2 ^ 28 = 1 ∨ w.toNat / 2 ^ 28 = 2) ∧ w.toNat / 2 ^ 24 % 16 = 1 ∧
      0x29 ≤ w.toNat / 2 ^ 8 % 256 ∧ w.toNat / 2 ^ 8 % 256 ≤ 0x3F)) →
    (∃ c' b', Host.Core.run Sys2Proof.core n c = .next c' ∧ Host.Core.run Sys2Proof.core n b = .next b' ∧
      VariantsAlike c' b') ∨
    (∃ r, Host.Core.run Sys2Proof.core n c = .refused r ∧ Host.Core.run Sys2Proof.core n b = .refused r)
end

