-- ==== Sys2Proof/Laws/Decode.lean ====
section
/-!
SUPPORT. The layout of R39 as arithmetic: the number of an encoded word, the fields of any word as quotients and remainders, the fields
of an encoded word, and the address map as a pair of inverse lookups.
-/

namespace Sys2Proof

/-! The fields of a word. -/

theorem kindField_eq (w : TransactionWord) : kindField w = w.toNat / 2 ^ 28 := by
  have := w.isLt
  simp only [kindField, BitVec.extractLsb'_toNat, Nat.shiftRight_eq_div_pow]
  omega

theorem spaceField_eq (w : TransactionWord) : spaceField w = w.toNat / 2 ^ 24 % 16 := by
  simp only [spaceField, BitVec.extractLsb'_toNat, Nat.shiftRight_eq_div_pow]

theorem reservedField_eq (w : TransactionWord) : reservedField w = w.toNat / 2 ^ 16 % 256 := by
  simp only [reservedField, BitVec.extractLsb'_toNat, Nat.shiftRight_eq_div_pow]

theorem addrField_toNat (w : TransactionWord) : (addrField w).toNat = w.toNat / 2 ^ 8 % 256 := by
  simp only [addrField, BitVec.extractLsb'_toNat, Nat.shiftRight_eq_div_pow]

theorem dataField_toNat (w : TransactionWord) : (dataField w).toNat = w.toNat % 256 := by
  simp only [dataField, BitVec.extractLsb'_toNat, Nat.shiftRight_eq_div_pow]
  omega

theorem offsetField_eq (w : TransactionWord) : offsetField w = w.toNat / 2 ^ 8 % 2 ^ 20 := by
  simp only [offsetField, BitVec.extractLsb'_toNat, Nat.shiftRight_eq_div_pow]

theorem resetField_eq (w : TransactionWord) : resetField w = w.toNat % 2 ^ 28 := by
  simp only [resetField, BitVec.extractLsb'_toNat, Nat.shiftRight_eq_div_pow]
  omega

/-! The number of an encoded word. -/

/-- Concatenation is multiplication and addition. -/
theorem append_toNat {m n : Nat} (x : BitVec m) (y : BitVec n) : (x ++ y).toNat = x.toNat * 2 ^ n + y.toNat := by
  rw [BitVec.toNat_append, Nat.shiftLeft_eq, Nat.mul_comm, Nat.two_pow_add_eq_or_of_lt y.isLt]

theorem regWord_toNat (kind : BitVec 4) (space : Space) (addr data : Byte) :
    (regWord kind space addr data).toNat =
      kind.toNat * 2 ^ 28 + (spaceCode space).toNat * 2 ^ 24 + addr.toNat * 2 ^ 8 + data.toNat := by
  have h0 : (0 : BitVec 8).toNat = 0 := rfl
  simp only [regWord, append_toNat, h0]
  omega

theorem memWord_toNat (kind : BitVec 4) (offset : Nat) (data : Byte) :
    (memWord kind offset data).toNat = kind.toNat * 2 ^ 28 + offset % 2 ^ 20 * 2 ^ 8 + data.toNat := by
  simp only [memWord, append_toNat, BitVec.toNat_ofNat]
  omega

/-! The fields of an encoded word. -/

theorem spaceCode_toNat_lt (space : Space) : (spaceCode space).toNat < 2 := by cases space <;> decide

@[simp] theorem kindField_regWord (kind : BitVec 4) (space : Space) (addr data : Byte) :
    kindField (regWord kind space addr data) = kind.toNat := by
  have := kind.isLt; have := spaceCode_toNat_lt space; have := addr.isLt; have := data.isLt
  rw [kindField_eq, regWord_toNat]
  omega

@[simp] theorem spaceField_regWord (kind : BitVec 4) (space : Space) (addr data : Byte) :
    spaceField (regWord kind space addr data) = (spaceCode space).toNat := by
  have := kind.isLt; have := spaceCode_toNat_lt space; have := addr.isLt; have := data.isLt
  rw [spaceField_eq, regWord_toNat]
  omega

@[simp] theorem reservedField_regWord (kind : BitVec 4) (space : Space) (addr data : Byte) :
    reservedField (regWord kind space addr data) = 0 := by
  have := kind.isLt; have := spaceCode_toNat_lt space; have := addr.isLt; have := data.isLt
  rw [reservedField_eq, regWord_toNat]
  omega

@[simp] theorem addrField_regWord (kind : BitVec 4) (space : Space) (addr data : Byte) :
    addrField (regWord kind space addr data) = addr := by
  have := kind.isLt; have := spaceCode_toNat_lt space; have := addr.isLt; have := data.isLt
  apply BitVec.eq_of_toNat_eq
  rw [addrField_toNat, regWord_toNat]
  omega

@[simp] theorem dataField_regWord (kind : BitVec 4) (space : Space) (addr data : Byte) :
    dataField (regWord kind space addr data) = data := by
  have := kind.isLt; have := spaceCode_toNat_lt space; have := addr.isLt; have := data.isLt
  apply BitVec.eq_of_toNat_eq
  rw [dataField_toNat, regWord_toNat]
  omega

@[simp] theorem kindField_memWord (kind : BitVec 4) (offset : Nat) (data : Byte) :
    kindField (memWord kind offset data) = kind.toNat := by
  have := kind.isLt; have := data.isLt
  rw [kindField_eq, memWord_toNat]
  omega

@[simp] theorem offsetField_memWord (kind : BitVec 4) (offset : Nat) (data : Byte) :
    offsetField (memWord kind offset data) = offset % 2 ^ 20 := by
  have := kind.isLt; have := data.isLt
  rw [offsetField_eq, memWord_toNat]
  omega

@[simp] theorem dataField_memWord (kind : BitVec 4) (offset : Nat) (data : Byte) :
    dataField (memWord kind offset data) = data := by
  have := kind.isLt; have := data.isLt
  apply BitVec.eq_of_toNat_eq
  rw [dataField_toNat, memWord_toNat]
  omega

/-! Parsing an encoded word (R39). -/

@[simp] theorem parseSpace_regWord (kind : BitVec 4) (space : Space) (addr data : Byte) :
    parseSpace (regWord kind space addr data) = .ok space := by
  cases space <;> simp [parseSpace, spaceCode]

theorem decode_readWord (p : Params) (space : Space) (addr data : Byte) :
    decode p (regWord 1 space addr data) = .ok (classifyRead p space addr) := by
  simp [decode, parseWord, classify]

theorem decode_writeWord (p : Params) (space : Space) (addr data : Byte) :
    decode p (regWord 2 space addr data) = .ok (classifyWrite p space addr data) := by
  simp [decode, parseWord, classify]

theorem decode_memReadWord (p : Params) {offset : Nat} (data : Byte) (h20 : offset < 2 ^ 20) (h : offset < 2 ^ p.offsetBits) :
    decode p (memWord 3 offset data) = .ok (.mr offset) := by
  have hm : offset % 1048576 = offset := Nat.mod_eq_of_lt h20
  simp [decode, parseWord, classify, parseOffset, hm, h]

theorem decode_memWriteWord (p : Params) {offset : Nat} (data : Byte) (h20 : offset < 2 ^ 20) (h : offset < 2 ^ p.offsetBits) :
    decode p (memWord 4 offset data) = .ok (.mw offset data) := by
  have hm : offset % 1048576 = offset := Nat.mod_eq_of_lt h20
  simp [decode, parseWord, classify, parseOffset, hm, h]

/-! The claimed offsets (R32). -/

theorem claims_gc_iff (v : Variant) (a : Byte) : claims v .gc a = true ↔ 0x09 ≤ a.toNat ∧ a.toNat ≤ 0x0F := by
  simp only [claims, Bool.and_eq_true, decide_eq_true_iff]
  rfl

theorem claims_crtc_iff (v : Variant) (a : Byte) :
    claims v .crtc a = true ↔ v = .capable ∧ 0x29 ≤ a.toNat ∧ a.toNat ≤ 0x3F := by
  cases v
  · simp [claims]
  · simp only [claims, Bool.and_eq_true, decide_eq_true_iff, true_and]
    rfl

/-! The address map (R33). -/

theorem gcMem_of_wf {p : Params} (h : p.wf = true) (r : GcReg) : r ∈ p.gcMap.toList := by
  simp only [Params.wf, Bool.and_eq_true, List.all_eq_true, List.contains_iff_mem] at h
  exact h.1.2 r (by cases r <;> decide)

theorem crtcMem_of_wf {p : Params} (h : p.wf = true) (r : CrtcReg) : r ∈ p.crtcMap.toList := by
  simp only [Params.wf, Bool.and_eq_true, List.all_eq_true, List.contains_iff_mem] at h
  exact h.2 r (by cases r <;> decide)

theorem offsetBits_of_wf {p : Params} (h : p.wf = true) : p.offsetBits ≤ 20 := by
  simp only [Params.wf, Bool.and_eq_true, decide_eq_true_eq] at h
  exact h.1.1.1

theorem gcOffset_toNat {p : Params} (h : p.wf = true) (r : GcReg) :
    (p.gcOffset r).toNat = gcFirst + p.gcMap.toList.idxOf r ∧ p.gcMap.toList.idxOf r < 7 := by
  have hlt : p.gcMap.toList.idxOf r < p.gcMap.toList.length := List.idxOf_lt_length_of_mem (gcMem_of_wf h r)
  have hlen : p.gcMap.toList.length = 7 := by simp
  rw [hlen] at hlt
  refine ⟨?_, hlt⟩
  simp only [Params.gcOffset, gcFirst, BitVec.toNat_ofNat]
  omega

theorem crtcOffset_toNat {p : Params} (h : p.wf = true) (r : CrtcReg) :
    (p.crtcOffset r).toNat = crtcFirst + p.crtcMap.toList.idxOf r ∧ p.crtcMap.toList.idxOf r < 23 := by
  have hlt : p.crtcMap.toList.idxOf r < p.crtcMap.toList.length := List.idxOf_lt_length_of_mem (crtcMem_of_wf h r)
  have hlen : p.crtcMap.toList.length = 23 := by simp
  rw [hlen] at hlt
  refine ⟨?_, hlt⟩
  simp only [Params.crtcOffset, crtcFirst, BitVec.toNat_ofNat]
  omega

/-- A tier-1 register's offset is claimed, and the register stands there. -/
theorem gcAt_gcOffset {p : Params} (h : p.wf = true) (r : GcReg) :
    claims p.variant .gc (p.gcOffset r) = true ∧ p.gcAt (p.gcOffset r) = r := by
  obtain ⟨hn, hlt⟩ := gcOffset_toNat h r
  constructor
  · simp only [claims, hn, gcFirst, gcLast, Bool.and_eq_true, decide_eq_true_eq]
    omega
  · simp only [Params.gcAt, hn, Nat.add_sub_cancel_left]
    rw [List.getD_eq_getElem _ _ (List.idxOf_lt_length_of_mem (gcMem_of_wf h r))]
    exact List.getElem_idxOf _

/-- In CAPABLE a tier-2 register's offset is claimed, and the register stands there. -/
theorem crtcAt_crtcOffset {p : Params} (h : p.wf = true) (hv : p.variant = .capable) (r : CrtcReg) :
    claims p.variant .crtc (p.crtcOffset r) = true ∧ p.crtcAt (p.crtcOffset r) = r := by
  obtain ⟨hn, hlt⟩ := crtcOffset_toNat h r
  constructor
  · simp only [claims, hv, hn, crtcFirst, crtcLast, Bool.and_eq_true, decide_eq_true_eq]
    omega
  · simp only [Params.crtcAt, hn, Nat.add_sub_cancel_left]
    rw [List.getD_eq_getElem _ _ (List.idxOf_lt_length_of_mem (crtcMem_of_wf h r))]
    exact List.getElem_idxOf _

/-- A register access decodes to the register's row at the register's own offset (R42, cases 3 and 4). -/
theorem decode_gcAccess {p : Params} (h : p.wf = true) (r : GcReg) (data : Byte) :
    decode p (regWord 1 .gc (p.gcOffset r) data) = .ok r.readInstr ∧
    decode p (regWord 2 .gc (p.gcOffset r) data) = .ok (r.writeInstr data) := by
  obtain ⟨hc, ha⟩ := gcAt_gcOffset h r
  rw [decode_readWord, decode_writeWord]
  simp [classifyRead, classifyWrite, hc, ha]

/-- A register access decodes to the register's row at the register's own offset (R42, cases 5 and 6). -/
theorem decode_crtcAccess {p : Params} (h : p.wf = true) (hv : p.variant = .capable) (r : CrtcReg) (data : Byte) :
    decode p (regWord 1 .crtc (p.crtcOffset r) data) = .ok r.readInstr ∧
    decode p (regWord 2 .crtc (p.crtcOffset r) data) = .ok (r.writeInstr data) := by
  obtain ⟨hc, ha⟩ := crtcAt_crtcOffset h hv r
  rw [decode_readWord, decode_writeWord]
  simp [classifyRead, classifyWrite, hc, ha]

/-! The words of the operations on registers, by register. -/

theorem encode_gcRead (p : Params) (r : GcReg) : encode p r.readInstr = regWord 1 .gc (p.gcOffset r) 0 := by
  cases r <;> rfl

theorem encode_gcWrite (p : Params) (r : GcReg) (data : Byte) :
    encode p (r.writeInstr data) = regWord 2 .gc (p.gcOffset r) data := by
  cases r <;> rfl

theorem encode_crtcRead (p : Params) (r : CrtcReg) : encode p r.readInstr = regWord 1 .crtc (p.crtcOffset r) 0 := by
  cases r <;> rfl

theorem encode_crtcWrite (p : Params) (r : CrtcReg) (data : Byte) :
    encode p (r.writeInstr data) = regWord 2 .crtc (p.crtcOffset r) data := by
  cases r <;> rfl

/-- The all-zero word is RESET (R39). -/
theorem decode_zero (p : Params) : decode p 0 = .ok .reset := by
  simp [decode, parseWord, kindField, resetField, classify]

/-- What a word that decodes looks like (R39, R42): one case for each operation kind. -/
theorem decode_cases {p : Params} {w : TransactionWord} {i : Instr} (h : decode p w = .ok i) :
    (kindField w = 0 ∧ resetField w = 0 ∧ i = .reset) ∨
    (kindField w = 1 ∧ ∃ space, parseSpace w = .ok space ∧ i = classifyRead p space (addrField w)) ∨
    (kindField w = 2 ∧ ∃ space, parseSpace w = .ok space ∧ i = classifyWrite p space (addrField w) (dataField w)) ∨
    (kindField w = 3 ∧ offsetField w < 2 ^ p.offsetBits ∧ i = .mr (offsetField w)) ∨
    (kindField w = 4 ∧ offsetField w < 2 ^ p.offsetBits ∧ i = .mw (offsetField w) (dataField w)) := by
  unfold decode at h
  split at h
  · rename_i t ht
    simp only [Except.ok.injEq] at h
    subst h
    unfold parseWord at ht
    split at ht
    · rename_i hk
      split at ht
      · rename_i hr
        simp only [Except.ok.injEq] at ht
        subst ht
        exact .inl ⟨hk, hr, rfl⟩
      · simp at ht
    split at ht
    · rename_i hk
      split at ht
      · rename_i space hs
        simp only [Except.ok.injEq] at ht
        subst ht
        exact .inr (.inl ⟨hk, space, hs, rfl⟩)
      · simp at ht
    split at ht
    · rename_i hk
      split at ht
      · rename_i space hs
        simp only [Except.ok.injEq] at ht
        subst ht
        exact .inr (.inr (.inl ⟨hk, space, hs, rfl⟩))
      · simp at ht
    split at ht
    · rename_i hk
      unfold parseOffset at ht
      split at ht
      · rename_i ho
        split at ho
        · rename_i hlt
          simp only [Except.ok.injEq] at ho ht
          subst ho ht
          exact .inr (.inr (.inr (.inl ⟨hk, hlt, rfl⟩)))
        · simp at ho
      · simp at ht
    split at ht
    · rename_i hk
      unfold parseOffset at ht
      split at ht
      · rename_i ho
        split at ho
        · rename_i hlt
          simp only [Except.ok.injEq] at ho ht
          subst ho ht
          exact .inr (.inr (.inr (.inr ⟨hk, hlt, rfl⟩)))
        · simp at ho
      · simp at ht
    · simp at ht
  · simp at h

/-- What `parseSpace` answers, as the fields it reads (R40). -/
theorem parseSpace_ok_iff (w : TransactionWord) (space : Space) :
    parseSpace w = .ok space ↔ reservedField w = 0 ∧ spaceField w = (spaceCode space).toNat := by
  unfold parseSpace
  cases space <;> (split <;> (try split) <;> (try split) <;> simp_all [spaceCode])

end Sys2Proof
end

