-- ==== Sys2Proof/Laws/Memory.lean ====
section
/-!
SUPPORT. The laws of a byte store: what a read after a write gives, that a write keeps the canonical form, and that canonical stores
which read alike are equal.
-/

namespace Sys2Proof.Machine

@[simp] theorem Memory.read_nil (a : Nat) : Memory.read [] a = unlistedByte := rfl

theorem Memory.read_consCell_same (m : Memory) (a : Nat) (v : Byte) (h : Memory.read m a = unlistedByte) :
    Memory.read (Memory.consCell a v m) a = v := by
  unfold Memory.consCell
  split
  · rename_i hv; rw [h, hv]
  · simp [Memory.read]

theorem Memory.read_consCell_other (m : Memory) {a c : Nat} (v : Byte) (h : c ≠ a) :
    Memory.read (Memory.consCell a v m) c = Memory.read m c := by
  unfold Memory.consCell
  split
  · rfl
  · simp [Memory.read, h]

/-- Below the cells of a store every address is unlisted. -/
theorem Memory.read_below {m : Memory} {lo a : Nat} (h : Memory.wfAbove lo m = true) (ha : a < lo) :
    Memory.read m a = unlistedByte := by
  induction m generalizing lo with
  | nil => rfl
  | cons cell rest ih =>
    obtain ⟨b, v⟩ := cell
    simp only [Memory.wfAbove, Bool.and_eq_true, decide_eq_true_eq] at h
    have hb : a ≠ b := by omega
    simp only [Memory.read, if_neg hb]
    exact ih h.2 (by omega)

theorem Memory.wfAbove_mono {m : Memory} {lo lo' : Nat} (h : Memory.wfAbove lo m = true) (hle : lo' ≤ lo) :
    Memory.wfAbove lo' m = true := by
  cases m with
  | nil => rfl
  | cons cell rest =>
    obtain ⟨b, v⟩ := cell
    simp only [Memory.wfAbove, Bool.and_eq_true, decide_eq_true_eq] at h ⊢
    exact ⟨⟨by omega, h.1.2⟩, h.2⟩

theorem Memory.wfAbove_consCell {m : Memory} {lo a : Nat} (v : Byte) (hm : Memory.wfAbove (a + 1) m = true) (ha : lo ≤ a) :
    Memory.wfAbove lo (Memory.consCell a v m) = true := by
  unfold Memory.consCell
  split
  · exact Memory.wfAbove_mono hm (by omega)
  · rename_i hv
    simp [Memory.wfAbove, ha, hv, hm]

theorem Memory.wfAbove_write {m : Memory} {lo : Nat} (h : Memory.wfAbove lo m = true) (a : Nat) (v : Byte) (ha : lo ≤ a) :
    Memory.wfAbove lo (Memory.write m a v) = true := by
  induction m generalizing lo with
  | nil => exact Memory.wfAbove_consCell v rfl ha
  | cons cell rest ih =>
    obtain ⟨b, u⟩ := cell
    have hcell := h
    simp only [Memory.wfAbove, Bool.and_eq_true, decide_eq_true_eq] at h
    unfold Memory.write
    split
    · refine Memory.wfAbove_consCell v ?_ ha
      simp only [Memory.wfAbove, Bool.and_eq_true, decide_eq_true_eq]
      exact ⟨⟨by omega, h.1.2⟩, h.2⟩
    · split
      · rename_i _ hab
        subst hab
        exact Memory.wfAbove_consCell v h.2 ha
      · simp only [Memory.wfAbove, Bool.and_eq_true, decide_eq_true_eq]
        exact ⟨h.1, ih h.2 (by omega)⟩

/-- A write keeps the canonical form. -/
theorem Memory.wf_write {m : Memory} (h : Memory.wf m = true) (a : Nat) (v : Byte) : Memory.wf (Memory.write m a v) = true :=
  Memory.wfAbove_write h a v (Nat.zero_le a)

@[simp] theorem Memory.wf_nil : Memory.wf [] = true := rfl

theorem Memory.read_write_same_above {m : Memory} {lo : Nat} (h : Memory.wfAbove lo m = true) (a : Nat) (v : Byte) :
    Memory.read (Memory.write m a v) a = v := by
  induction m generalizing lo with
  | nil => exact Memory.read_consCell_same [] a v rfl
  | cons cell rest ih =>
    obtain ⟨b, u⟩ := cell
    simp only [Memory.wfAbove, Bool.and_eq_true, decide_eq_true_eq] at h
    unfold Memory.write
    split
    · rename_i hab
      refine Memory.read_consCell_same _ a v ?_
      have hne : a ≠ b := by omega
      simp only [Memory.read, if_neg hne]
      exact Memory.read_below h.2 (by omega)
    · split
      · rename_i _ hab
        subst hab
        exact Memory.read_consCell_same _ a v (Memory.read_below h.2 (by omega))
      · rename_i _ hab
        simp only [Memory.read, if_neg hab]
        exact ih h.2

/-- A read after a write to the same address gives the byte written. -/
theorem Memory.read_write_same {m : Memory} (h : Memory.wf m = true) (a : Nat) (v : Byte) :
    Memory.read (Memory.write m a v) a = v :=
  Memory.read_write_same_above h a v

/-- A write leaves every other address alone. -/
theorem Memory.read_write_other (m : Memory) {a c : Nat} (v : Byte) (h : c ≠ a) :
    Memory.read (Memory.write m a v) c = Memory.read m c := by
  induction m with
  | nil => exact Memory.read_consCell_other [] v h
  | cons cell rest ih =>
    obtain ⟨b, u⟩ := cell
    unfold Memory.write
    split
    · exact Memory.read_consCell_other _ v h
    · split
      · rename_i _ hab
        subst hab
        rw [Memory.read_consCell_other _ v h]
        simp [Memory.read, h]
      · simp only [Memory.read, ih]

theorem Memory.eq_of_read_eq_above {m n : Memory} {lo : Nat} (hm : Memory.wfAbove lo m = true) (hn : Memory.wfAbove lo n = true)
    (h : ∀ a, Memory.read m a = Memory.read n a) : m = n := by
  induction m generalizing n lo with
  | nil =>
    cases n with
    | nil => rfl
    | cons cell rest =>
      obtain ⟨b, v⟩ := cell
      simp only [Memory.wfAbove, Bool.and_eq_true, decide_eq_true_eq] at hn
      have hb := h b
      simp only [Memory.read, if_true] at hb
      exact absurd hb.symm hn.1.2
  | cons cell rest ih =>
    obtain ⟨b, v⟩ := cell
    simp only [Memory.wfAbove, Bool.and_eq_true, decide_eq_true_eq] at hm
    cases n with
    | nil =>
      have hb := h b
      simp only [Memory.read, if_true] at hb
      exact absurd hb hm.1.2
    | cons cell' rest' =>
      obtain ⟨c, u⟩ := cell'
      simp only [Memory.wfAbove, Bool.and_eq_true, decide_eq_true_eq] at hn
      have hbc : b = c := by
        rcases Nat.lt_trichotomy b c with hlt | heq | hgt
        · have hb := h b
          have hne : b ≠ c := by omega
          simp only [Memory.read, if_true, if_neg hne] at hb
          rw [Memory.read_below hn.2 (by omega)] at hb
          exact absurd hb hm.1.2
        · exact heq
        · have hc := h c
          have hne : c ≠ b := by omega
          simp only [Memory.read, if_true, if_neg hne] at hc
          rw [Memory.read_below hm.2 (by omega)] at hc
          exact absurd hc.symm hn.1.2
      subst hbc
      have hv := h b
      simp only [Memory.read, if_true] at hv
      subst hv
      have hrest : rest = rest' := by
        refine ih hm.2 hn.2 fun a => ?_
        by_cases hab : a = b
        · subst hab
          rw [Memory.read_below hm.2 (by omega), Memory.read_below hn.2 (by omega)]
        · have ha := h a
          simpa only [Memory.read, if_neg hab] using ha
      rw [hrest]

/-- Two canonical stores that read alike are equal. -/
theorem Memory.eq_of_read_eq {m n : Memory} (hm : Memory.wf m = true) (hn : Memory.wf n = true)
    (h : ∀ a, Memory.read m a = Memory.read n a) : m = n :=
  Memory.eq_of_read_eq_above hm hn h

end Sys2Proof.Machine
end

