-- ==== Sys2Proof/Laws/State.lean ====
section
/-!
SUPPORT. One lemma per field per update of State, so that no proof unfolds a record update; and what each byte of the stores reads
after an update.
-/

namespace Sys2Proof.Machine

@[simp] theorem State.setBlock_block (s : State) (b : Block) :
    (s.setBlock b).block = b := rfl

@[simp] theorem State.setBlock_params (s : State) (b : Block) :
    (s.setBlock b).params = s.params := rfl

@[simp] theorem State.setBlock_mem (s : State) (b : Block) :
    (s.setBlock b).mem = s.mem := rfl

@[simp] theorem State.setBlock_gcBase (s : State) (b : Block) :
    (s.setBlock b).gcBase = s.gcBase := rfl

@[simp] theorem State.setBlock_crtcBase (s : State) (b : Block) :
    (s.setBlock b).crtcBase = s.crtcBase := rfl

@[simp] theorem State.setBlock_calls (s : State) (b : Block) :
    (s.setBlock b).calls = s.calls := rfl

@[simp] theorem State.setBlock_returned (s : State) (b : Block) :
    (s.setBlock b).returned = s.returned := rfl

@[simp] theorem State.setBlock_notices (s : State) (b : Block) :
    (s.setBlock b).notices = s.notices := rfl

@[simp] theorem State.setBlock_offered (s : State) (b : Block) :
    (s.setBlock b).offered = s.offered := rfl

@[simp] theorem State.setBlock_pending (s : State) (b : Block) :
    (s.setBlock b).pending = s.pending := rfl

@[simp] theorem State.answer_block (s : State) (v : Byte) :
    (s.answer v).block = s.block := rfl

@[simp] theorem State.answer_params (s : State) (v : Byte) :
    (s.answer v).params = s.params := rfl

@[simp] theorem State.answer_mem (s : State) (v : Byte) :
    (s.answer v).mem = s.mem := rfl

@[simp] theorem State.answer_gcBase (s : State) (v : Byte) :
    (s.answer v).gcBase = s.gcBase := rfl

@[simp] theorem State.answer_crtcBase (s : State) (v : Byte) :
    (s.answer v).crtcBase = s.crtcBase := rfl

@[simp] theorem State.answer_calls (s : State) (v : Byte) :
    (s.answer v).calls = s.calls := rfl

@[simp] theorem State.answer_returned (s : State) (v : Byte) :
    (s.answer v).returned = s.returned ++ [v] := rfl

@[simp] theorem State.answer_notices (s : State) (v : Byte) :
    (s.answer v).notices = s.notices := rfl

@[simp] theorem State.answer_offered (s : State) (v : Byte) :
    (s.answer v).offered = s.offered := rfl

@[simp] theorem State.answer_pending (s : State) (v : Byte) :
    (s.answer v).pending = s.pending := rfl

@[simp] theorem State.called_block (s : State) (c : BaselineCall) :
    (s.called c).block = s.block := rfl

@[simp] theorem State.called_params (s : State) (c : BaselineCall) :
    (s.called c).params = s.params := rfl

@[simp] theorem State.called_mem (s : State) (c : BaselineCall) :
    (s.called c).mem = s.mem := rfl

@[simp] theorem State.called_gcBase (s : State) (c : BaselineCall) :
    (s.called c).gcBase = s.gcBase := rfl

@[simp] theorem State.called_crtcBase (s : State) (c : BaselineCall) :
    (s.called c).crtcBase = s.crtcBase := rfl

@[simp] theorem State.called_calls (s : State) (c : BaselineCall) :
    (s.called c).calls = s.calls ++ [c] := rfl

@[simp] theorem State.called_returned (s : State) (c : BaselineCall) :
    (s.called c).returned = s.returned := rfl

@[simp] theorem State.called_notices (s : State) (c : BaselineCall) :
    (s.called c).notices = s.notices := rfl

@[simp] theorem State.called_offered (s : State) (c : BaselineCall) :
    (s.called c).offered = s.offered := rfl

@[simp] theorem State.called_pending (s : State) (c : BaselineCall) :
    (s.called c).pending = s.pending := rfl

@[simp] theorem State.notify_block (s : State) (n : Notice) :
    (s.notify n).block = s.block := rfl

@[simp] theorem State.notify_params (s : State) (n : Notice) :
    (s.notify n).params = s.params := rfl

@[simp] theorem State.notify_mem (s : State) (n : Notice) :
    (s.notify n).mem = s.mem := rfl

@[simp] theorem State.notify_gcBase (s : State) (n : Notice) :
    (s.notify n).gcBase = s.gcBase := rfl

@[simp] theorem State.notify_crtcBase (s : State) (n : Notice) :
    (s.notify n).crtcBase = s.crtcBase := rfl

@[simp] theorem State.notify_calls (s : State) (n : Notice) :
    (s.notify n).calls = s.calls := rfl

@[simp] theorem State.notify_returned (s : State) (n : Notice) :
    (s.notify n).returned = s.returned := rfl

@[simp] theorem State.notify_notices (s : State) (n : Notice) :
    (s.notify n).notices = if Config.sinkTakes s.offered n then s.notices ++ [n] else s.notices := rfl

@[simp] theorem State.notify_offered (s : State) (n : Notice) :
    (s.notify n).offered = s.offered + 1 := rfl

@[simp] theorem State.notify_pending (s : State) (n : Notice) :
    (s.notify n).pending = s.pending := rfl

@[simp] theorem State.setMemByte_block (s : State) (ea : Nat) (v : Byte) :
    (s.setMemByte ea v).block = s.block := rfl

@[simp] theorem State.setMemByte_params (s : State) (ea : Nat) (v : Byte) :
    (s.setMemByte ea v).params = s.params := rfl

@[simp] theorem State.setMemByte_mem (s : State) (ea : Nat) (v : Byte) :
    (s.setMemByte ea v).mem = Memory.write s.mem ea v := rfl

@[simp] theorem State.setMemByte_gcBase (s : State) (ea : Nat) (v : Byte) :
    (s.setMemByte ea v).gcBase = s.gcBase := rfl

@[simp] theorem State.setMemByte_crtcBase (s : State) (ea : Nat) (v : Byte) :
    (s.setMemByte ea v).crtcBase = s.crtcBase := rfl

@[simp] theorem State.setMemByte_calls (s : State) (ea : Nat) (v : Byte) :
    (s.setMemByte ea v).calls = s.calls := rfl

@[simp] theorem State.setMemByte_returned (s : State) (ea : Nat) (v : Byte) :
    (s.setMemByte ea v).returned = s.returned := rfl

@[simp] theorem State.setMemByte_notices (s : State) (ea : Nat) (v : Byte) :
    (s.setMemByte ea v).notices = s.notices := rfl

@[simp] theorem State.setMemByte_offered (s : State) (ea : Nat) (v : Byte) :
    (s.setMemByte ea v).offered = s.offered := rfl

@[simp] theorem State.setMemByte_pending (s : State) (ea : Nat) (v : Byte) :
    (s.setMemByte ea v).pending = s.pending := rfl

@[simp] theorem State.setBaseByte_block (s : State) (space : Space) (addr v : Byte) :
    (s.setBaseByte space addr v).block = s.block := by cases space <;> rfl

@[simp] theorem State.setBaseByte_params (s : State) (space : Space) (addr v : Byte) :
    (s.setBaseByte space addr v).params = s.params := by cases space <;> rfl

@[simp] theorem State.setBaseByte_mem (s : State) (space : Space) (addr v : Byte) :
    (s.setBaseByte space addr v).mem = s.mem := by cases space <;> rfl

@[simp] theorem State.setBaseByte_calls (s : State) (space : Space) (addr v : Byte) :
    (s.setBaseByte space addr v).calls = s.calls := by cases space <;> rfl

@[simp] theorem State.setBaseByte_returned (s : State) (space : Space) (addr v : Byte) :
    (s.setBaseByte space addr v).returned = s.returned := by cases space <;> rfl

@[simp] theorem State.setBaseByte_notices (s : State) (space : Space) (addr v : Byte) :
    (s.setBaseByte space addr v).notices = s.notices := by cases space <;> rfl

@[simp] theorem State.setBaseByte_offered (s : State) (space : Space) (addr v : Byte) :
    (s.setBaseByte space addr v).offered = s.offered := by cases space <;> rfl

@[simp] theorem State.setBaseByte_pending (s : State) (space : Space) (addr v : Byte) :
    (s.setBaseByte space addr v).pending = s.pending := by cases space <;> rfl

@[simp] theorem State.setBaseByte_gc_gcBase (s : State) (addr v : Byte) :
    (s.setBaseByte .gc addr v).gcBase = Memory.write s.gcBase addr.toNat v := rfl

@[simp] theorem State.setBaseByte_gc_crtcBase (s : State) (addr v : Byte) :
    (s.setBaseByte .gc addr v).crtcBase = s.crtcBase := rfl

@[simp] theorem State.setBaseByte_crtc_gcBase (s : State) (addr v : Byte) :
    (s.setBaseByte .crtc addr v).gcBase = s.gcBase := rfl

@[simp] theorem State.setBaseByte_crtc_crtcBase (s : State) (addr v : Byte) :
    (s.setBaseByte .crtc addr v).crtcBase = Memory.write s.crtcBase addr.toNat v := rfl

@[simp] theorem State.memByte_setBlock (s : State) (b : Block) (ea : Nat) :
    (s.setBlock b).memByte ea = s.memByte ea := rfl

@[simp] theorem State.baseByte_setBlock (s : State) (b : Block) (space : Space) (addr : Byte) :
    (s.setBlock b).baseByte space addr = s.baseByte space addr := rfl

@[simp] theorem State.memByte_answer (s : State) (v : Byte) (ea : Nat) :
    (s.answer v).memByte ea = s.memByte ea := rfl

@[simp] theorem State.baseByte_answer (s : State) (v : Byte) (space : Space) (addr : Byte) :
    (s.answer v).baseByte space addr = s.baseByte space addr := rfl

@[simp] theorem State.memByte_called (s : State) (c : BaselineCall) (ea : Nat) :
    (s.called c).memByte ea = s.memByte ea := rfl

@[simp] theorem State.baseByte_called (s : State) (c : BaselineCall) (space : Space) (addr : Byte) :
    (s.called c).baseByte space addr = s.baseByte space addr := rfl

@[simp] theorem State.memByte_notify (s : State) (n : Notice) (ea : Nat) :
    (s.notify n).memByte ea = s.memByte ea := rfl

@[simp] theorem State.baseByte_notify (s : State) (n : Notice) (space : Space) (addr : Byte) :
    (s.notify n).baseByte space addr = s.baseByte space addr := rfl

@[simp] theorem State.baseByte_setMemByte (s : State) (at_ : Nat) (v : Byte) (space : Space) (addr : Byte) :
    (s.setMemByte at_ v).baseByte space addr = s.baseByte space addr := rfl

@[simp] theorem State.memByte_setBaseByte (s : State) (space : Space) (addr v : Byte) (ea : Nat) :
    (s.setBaseByte space addr v).memByte ea = s.memByte ea := by cases space <;> rfl

/-- On a canonical store, the byte handed to `MemWrite` is the byte kept at its address. -/
theorem State.memByte_setMemByte_same (s : State) (h : Memory.wf s.mem = true) (ea : Nat) (v : Byte) :
    (s.setMemByte ea v).memByte ea = v :=
  Memory.read_write_same h ea v

/-- `MemWrite` leaves every other byte alone. -/
theorem State.memByte_setMemByte_other (s : State) {ea c : Nat} (v : Byte) (h : c ≠ ea) :
    (s.setMemByte ea v).memByte c = s.memByte c :=
  Memory.read_write_other s.mem v h

/-- On canonical stores, the byte handed to `BaseRegWrite` is the byte kept at its offset. -/
theorem State.baseByte_setBaseByte_same (s : State) (hg : Memory.wf s.gcBase = true) (hc : Memory.wf s.crtcBase = true)
    (space : Space) (addr v : Byte) : (s.setBaseByte space addr v).baseByte space addr = v := by
  cases space
  · exact Memory.read_write_same hg _ v
  · exact Memory.read_write_same hc _ v

/-- `BaseRegWrite` leaves every other offset of both spaces alone. -/
theorem State.baseByte_setBaseByte_other (s : State) (space space' : Space) {addr addr' : Byte} (v : Byte)
    (h : ¬(space' = space ∧ addr' = addr)) :
    (s.setBaseByte space addr v).baseByte space' addr' = s.baseByte space' addr' := by
  have hne : space' = space → addr'.toNat ≠ addr.toNat := fun hs ht => h ⟨hs, BitVec.eq_of_toNat_eq ht⟩
  cases space <;> cases space'
  · exact Memory.read_write_other s.gcBase v (hne rfl)
  · rfl
  · rfl
  · exact Memory.read_write_other s.crtcBase v (hne rfl)

end Sys2Proof.Machine
end

