-- ==== Sys2Proof/Laws/Ops.lean ====
section
/-!
SUPPORT. One lemma per shared operation, saying everything it does, in each view and each variant; and how many notices an operation
offers.
-/

namespace Sys2Proof.Machine

/-! Views (R13). -/

@[simp] theorem Block.view_one_locked {b : Block} (h : b.gate1 = false) : b.view .one = .locked := by
  simp [Block.view, Block.gate, h]

@[simp] theorem Block.view_one_unlocked {b : Block} (h : b.gate1 = true) : b.view .one = .unlocked := by
  simp [Block.view, Block.gate, h]

@[simp] theorem Block.view_two_locked {b : Block} (h : b.gate2 = false) : b.view .two = .locked := by
  simp [Block.view, Block.gate, h]

@[simp] theorem Block.view_two_unlocked {b : Block} (h : b.gate2 = true) : b.view .two = .unlocked := by
  simp [Block.view, Block.gate, h]

theorem unlocks_eq (c : Byte) : unlocks c = decide (c &&& 0x07 = 0x05) := by
  unfold unlocks gateMask gatePattern
  rw [Bool.eq_iff_iff]
  simp

/-! Guarded, reserved and delegated accesses. -/

theorem guardedRead_locked {t : Tier} {s : State} (h : s.block.view t = .locked) (addr : Byte) (f : Block → Byte) :
    guardedRead t addr f s = (s.notify (.lockedRead t addr)).answer sentinel := by
  simp [guardedRead, h]

theorem guardedRead_unlocked {t : Tier} {s : State} (h : s.block.view t = .unlocked) (addr : Byte) (f : Block → Byte) :
    guardedRead t addr f s = s.answer (f s.block) := by
  simp [guardedRead, h]

theorem guardedWrite_locked {t : Tier} {s : State} (h : s.block.view t = .locked) (addr : Byte) (r : RegId) (d : Byte)
    (f : Block → Block) : guardedWrite t addr r d f s = s.notify (.lockedWrite t addr d) := by
  simp [guardedWrite, h]

theorem guardedWrite_unlocked {t : Tier} {s : State} (h : s.block.view t = .unlocked) (addr : Byte) (r : RegId) (d : Byte)
    (f : Block → Block) : guardedWrite t addr r d f s = (s.setBlock (f s.block)).notify (.regWrite r d) := by
  simp [guardedWrite, h]

theorem tierTwoRead_capable {s : State} (h : s.params.variant = .capable) (r : CrtcReg) (f : State → State) :
    tierTwoRead r f s = f s := by
  simp [tierTwoRead, h]

theorem tierTwoRead_base {s : State} (h : s.params.variant = .base) (r : CrtcReg) (f : State → State) :
    tierTwoRead r f s = delegatedRead .crtc (s.params.crtcOffset r) s := by
  simp [tierTwoRead, h]

theorem tierTwoWrite_capable {s : State} (h : s.params.variant = .capable) (r : CrtcReg) (d : Byte) (f : State → State) :
    tierTwoWrite r d f s = f s := by
  simp [tierTwoWrite, h]

theorem tierTwoWrite_base {s : State} (h : s.params.variant = .base) (r : CrtcReg) (d : Byte) (f : State → State) :
    tierTwoWrite r d f s = delegatedWrite .crtc (s.params.crtcOffset r) d s := by
  simp [tierTwoWrite, h]

/-! The frame's parts. -/

theorem State.sameBytes_refl (s : State) : s.SameBytes s := ⟨fun _ => rfl, fun _ _ => rfl⟩

theorem State.offered_nil {s t : State} (h : t.notices = s.notices) (hk : t.offered = s.offered) : s.Offered t [] :=
  ⟨by simp [hk], [], List.Sublist.refl [], by simp [h]⟩

/-- One notice offered (R73): the sink takes it or not. -/
theorem State.offered_notify (s : State) (n : Notice) : s.Offered (s.notify n) [n] := by
  refine ⟨by simp, ?_⟩
  by_cases h : Config.sinkTakes s.offered n = true
  · exact ⟨[n], List.Sublist.refl _, by simp [h]⟩
  · exact ⟨[], List.nil_sublist _, by simp [h]⟩

theorem State.Offered.append {s t u : State} {ns ms : List Notice} (h : s.Offered t ns) (h' : t.Offered u ms) :
    s.Offered u (ns ++ ms) := by
  obtain ⟨hk, taken, hsub, hn⟩ := h
  obtain ⟨hk', taken', hsub', hn'⟩ := h'
  exact ⟨by simp [hk, hk', Nat.add_assoc], taken ++ taken', hsub.append hsub', by simp [hn, hn']⟩

/-- What follows a notice without offering another keeps what was offered. -/
theorem State.Offered.congr {s t u : State} {ns : List Notice} (h : s.Offered t ns) (hn : u.notices = t.notices)
    (hk : u.offered = t.offered) : s.Offered u ns := by
  simpa using h.append (State.offered_nil hn hk)

/-- Two notices offered, in order (R55, R57). -/
theorem State.offered_two (s : State) (n m : Notice) : s.Offered ((s.notify n).notify m) [n, m] :=
  (s.offered_notify n).append ((s.notify n).offered_notify m)

end Sys2Proof.Machine
end

