-- ==== Sys2Proof/Laws/Exec.lean ====
section
/-!
SUPPORT. What exec answers, register by register: one equation for each way an access ends (locked stub, real handler, reserved, status,
delegated). A proof over all operations splits them with `instr_cases` and cites these; none unfolds a meaning again.
-/

namespace Sys2Proof.Machine

/-- Every operation is an access of a register, a delegated access, a memory access, or RESET. -/
theorem instr_cases (i : Instr) :
    (∃ r : GcReg, i = r.readInstr) ∨ (∃ (r : GcReg) (d : Byte), i = r.writeInstr d) ∨
    (∃ r : CrtcReg, i = r.readInstr) ∨ (∃ (r : CrtcReg) (d : Byte), i = r.writeInstr d) ∨
    (∃ a, i = .rrGcBase a) ∨ (∃ a d, i = .rwGcBase a d) ∨ (∃ a, i = .rrCrtcBase a) ∨ (∃ a d, i = .rwCrtcBase a d) ∨
    (∃ o, i = .mr o) ∨ (∃ o d, i = .mw o d) ∨ i = .reset := by
  cases i
  case rrAoffa => exact .inl ⟨.aoffa, rfl⟩
  case rwAoffa d => exact .inr (.inl ⟨.aoffa, d, rfl⟩)
  case rrAoffb => exact .inl ⟨.aoffb, rfl⟩
  case rwAoffb d => exact .inr (.inl ⟨.aoffb, d, rfl⟩)
  case rrMemsize => exact .inl ⟨.memsize, rfl⟩
  case rwMemsize d => exact .inr (.inl ⟨.memsize, d, rfl⟩)
  case rrVsel => exact .inl ⟨.vsel, rfl⟩
  case rwVsel d => exact .inr (.inl ⟨.vsel, d, rfl⟩)
  case rrCrtclock => exact .inl ⟨.crtclock, rfl⟩
  case rwCrtclock d => exact .inr (.inl ⟨.crtclock, d, rfl⟩)
  case rrVctl => exact .inl ⟨.vctl, rfl⟩
  case rwVctl d => exact .inr (.inl ⟨.vctl, d, rfl⟩)
  case rrStatus1 => exact .inl ⟨.status1, rfl⟩
  case rwStatus1 d => exact .inr (.inl ⟨.status1, d, rfl⟩)
  case rrStatus2 => exact .inr (.inr (.inl ⟨.status2, rfl⟩))
  case rwStatus2 d => exact .inr (.inr (.inr (.inl ⟨.status2, d, rfl⟩)))
  case rrRsvd2A => exact .inr (.inr (.inl ⟨.rsvd2A, rfl⟩))
  case rwRsvd2A d => exact .inr (.inr (.inr (.inl ⟨.rsvd2A, d, rfl⟩)))
  case rrScratch => exact .inr (.inr (.inl ⟨.scratch, rfl⟩))
  case rwScratch d => exact .inr (.inr (.inr (.inl ⟨.scratch, d, rfl⟩)))
  case rrRsvd2C => exact .inr (.inr (.inl ⟨.rsvd2C, rfl⟩))
  case rwRsvd2C d => exact .inr (.inr (.inr (.inl ⟨.rsvd2C, d, rfl⟩)))
  case rrRsvd2D => exact .inr (.inr (.inl ⟨.rsvd2D, rfl⟩))
  case rwRsvd2D d => exact .inr (.inr (.inr (.inl ⟨.rsvd2D, d, rfl⟩)))
  case rrRsvd2E => exact .inr (.inr (.inl ⟨.rsvd2E, rfl⟩))
  case rwRsvd2E d => exact .inr (.inr (.inr (.inl ⟨.rsvd2E, d, rfl⟩)))
  case rrRsvd2F => exact .inr (.inr (.inl ⟨.rsvd2F, rfl⟩))
  case rwRsvd2F d => exact .inr (.inr (.inr (.inl ⟨.rsvd2F, d, rfl⟩)))
  case rrRsvd30 => exact .inr (.inr (.inl ⟨.rsvd30, rfl⟩))
  case rwRsvd30 d => exact .inr (.inr (.inr (.inl ⟨.rsvd30, d, rfl⟩)))
  case rrRsvd31 => exact .inr (.inr (.inl ⟨.rsvd31, rfl⟩))
  case rwRsvd31 d => exact .inr (.inr (.inr (.inl ⟨.rsvd31, d, rfl⟩)))
  case rrRsvd32 => exact .inr (.inr (.inl ⟨.rsvd32, rfl⟩))
  case rwRsvd32 d => exact .inr (.inr (.inr (.inl ⟨.rsvd32, d, rfl⟩)))
  case rrRsvd33 => exact .inr (.inr (.inl ⟨.rsvd33, rfl⟩))
  case rwRsvd33 d => exact .inr (.inr (.inr (.inl ⟨.rsvd33, d, rfl⟩)))
  case rrRsvd34 => exact .inr (.inr (.inl ⟨.rsvd34, rfl⟩))
  case rwRsvd34 d => exact .inr (.inr (.inr (.inl ⟨.rsvd34, d, rfl⟩)))
  case rrRsvd35 => exact .inr (.inr (.inl ⟨.rsvd35, rfl⟩))
  case rwRsvd35 d => exact .inr (.inr (.inr (.inl ⟨.rsvd35, d, rfl⟩)))
  case rrRsvd36 => exact .inr (.inr (.inl ⟨.rsvd36, rfl⟩))
  case rwRsvd36 d => exact .inr (.inr (.inr (.inl ⟨.rsvd36, d, rfl⟩)))
  case rrRsvd37 => exact .inr (.inr (.inl ⟨.rsvd37, rfl⟩))
  case rwRsvd37 d => exact .inr (.inr (.inr (.inl ⟨.rsvd37, d, rfl⟩)))
  case rrRsvd38 => exact .inr (.inr (.inl ⟨.rsvd38, rfl⟩))
  case rwRsvd38 d => exact .inr (.inr (.inr (.inl ⟨.rsvd38, d, rfl⟩)))
  case rrRsvd39 => exact .inr (.inr (.inl ⟨.rsvd39, rfl⟩))
  case rwRsvd39 d => exact .inr (.inr (.inr (.inl ⟨.rsvd39, d, rfl⟩)))
  case rrRsvd3A => exact .inr (.inr (.inl ⟨.rsvd3A, rfl⟩))
  case rwRsvd3A d => exact .inr (.inr (.inr (.inl ⟨.rsvd3A, d, rfl⟩)))
  case rrRsvd3B => exact .inr (.inr (.inl ⟨.rsvd3B, rfl⟩))
  case rwRsvd3B d => exact .inr (.inr (.inr (.inl ⟨.rsvd3B, d, rfl⟩)))
  case rrRsvd3C => exact .inr (.inr (.inl ⟨.rsvd3C, rfl⟩))
  case rwRsvd3C d => exact .inr (.inr (.inr (.inl ⟨.rsvd3C, d, rfl⟩)))
  case rrRsvd3D => exact .inr (.inr (.inl ⟨.rsvd3D, rfl⟩))
  case rwRsvd3D d => exact .inr (.inr (.inr (.inl ⟨.rsvd3D, d, rfl⟩)))
  case rrRsvd3E => exact .inr (.inr (.inl ⟨.rsvd3E, rfl⟩))
  case rwRsvd3E d => exact .inr (.inr (.inr (.inl ⟨.rsvd3E, d, rfl⟩)))
  case rrRsvd3F => exact .inr (.inr (.inl ⟨.rsvd3F, rfl⟩))
  case rwRsvd3F d => exact .inr (.inr (.inr (.inl ⟨.rsvd3F, d, rfl⟩)))
  case rrGcBase a => exact .inr (.inr (.inr (.inr (.inl ⟨a, rfl⟩))))
  case rwGcBase a d => exact .inr (.inr (.inr (.inr (.inr (.inl ⟨a, d, rfl⟩)))))
  case rrCrtcBase a => exact .inr (.inr (.inr (.inr (.inr (.inr (.inl ⟨a, rfl⟩))))))
  case rwCrtcBase a d => exact .inr (.inr (.inr (.inr (.inr (.inr (.inr (.inl ⟨a, d, rfl⟩)))))))
  case mr o => exact .inr (.inr (.inr (.inr (.inr (.inr (.inr (.inr (.inl ⟨o, rfl⟩))))))))
  case mw o d => exact .inr (.inr (.inr (.inr (.inr (.inr (.inr (.inr (.inr (.inl ⟨o, d, rfl⟩)))))))))
  case reset => exact .inr (.inr (.inr (.inr (.inr (.inr (.inr (.inr (.inr (.inr rfl)))))))))

/-! Tier 1. -/

theorem exec_gcRead_locked {s : State} (h : s.block.gate1 = false) {r : GcReg} (hr : r ≠ .status1) :
    exec r.readInstr s = .next ((s.notify (.lockedRead .one (s.params.gcOffset r))).answer 0xFF) := by
  cases r <;> first | exact absurd rfl hr | exact congrArg _ (guardedRead_locked (Block.view_one_locked h) _ _)

theorem exec_gcRead_unlocked {s : State} (h : s.block.gate1 = true) {r : GcReg} (hr : r ≠ .status1) :
    exec r.readInstr s = .next (s.answer (gcReadback s.params.aoffbMask s.block r)) := by
  cases r <;> first | exact absurd rfl hr | exact congrArg _ (guardedRead_unlocked (Block.view_one_unlocked h) _ _)

theorem exec_gcWrite_locked {s : State} (h : s.block.gate1 = false) {r : GcReg} (hr : r ≠ .status1) (d : Byte) :
    exec (r.writeInstr d) s = .next (s.notify (.lockedWrite .one (s.params.gcOffset r) d)) := by
  cases r <;> first | exact absurd rfl hr | exact congrArg _ (guardedWrite_locked (Block.view_one_locked h) _ _ _ _)

/-- The low seven bits, taken either way (R78). -/
theorem bankOf_eq (d : Byte) : bankOf d = d.setWidth 7 := by
  unfold bankOf
  apply BitVec.eq_of_toNat_eq
  simp

theorem exec_gcWrite_unlocked {s : State} (h : s.block.gate1 = true) {r : GcReg} (hr : r ≠ .status1) (d : Byte) :
    exec (r.writeInstr d) s = .next ((s.setBlock (gcWritten s.block r d)).notify (.regWrite (.gc r) d)) := by
  cases r with
  | status1 => exact absurd rfl hr
  | aoffa =>
    simp only [gcWritten, ← bankOf_eq]
    exact congrArg _ (guardedWrite_unlocked (Block.view_one_unlocked h) _ _ _ _)
  | aoffb => exact congrArg _ (guardedWrite_unlocked (Block.view_one_unlocked h) _ _ _ _)
  | memsize => exact congrArg _ (guardedWrite_unlocked (Block.view_one_unlocked h) _ _ _ _)
  | vsel => exact congrArg _ (guardedWrite_unlocked (Block.view_one_unlocked h) _ _ _ _)
  | crtclock => exact congrArg _ (guardedWrite_unlocked (Block.view_one_unlocked h) _ _ _ _)
  | vctl => exact congrArg _ (guardedWrite_unlocked (Block.view_one_unlocked h) _ _ _ _)

theorem exec_status1Read (s : State) : exec .rrStatus1 s = .next (s.answer (lockCode s.block.gate1)) := rfl

theorem exec_status1Write (s : State) (d : Byte) :
    exec (.rwStatus1 d) s =
      .next (((s.setBlock { s.block with gate1 := decide (d &&& 0x07 = 0x05) }).notify
        (.gateTransition .one (decide (d &&& 0x07 = 0x05)))).notify (.regWrite (.gc .status1) d)) := by
  simp only [exec, execRwStatus1, statusWrite, unlocks_eq]

/-! Tier 2. -/

/-- A guarded tier-2 register is the scratch register or a reserved one (R63). -/
theorem crtcReg_cases (r : CrtcReg) : r = .status2 ∨ r = .scratch ∨ r.reserved = true := by
  cases r <;> simp [CrtcReg.reserved]

theorem exec_reservedRead {s : State} (hv : s.params.variant = .capable) {r : CrtcReg} (hr : r.reserved = true) :
    exec r.readInstr s = .next ((s.notify (.lockedRead .two (s.params.crtcOffset r))).answer 0xFF) := by
  cases r <;> first | exact absurd hr (by decide) | exact congrArg _ (tierTwoRead_capable hv _ _)

theorem exec_reservedWrite {s : State} (hv : s.params.variant = .capable) {r : CrtcReg} (hr : r.reserved = true) (d : Byte) :
    exec (r.writeInstr d) s = .next (s.notify (.lockedWrite .two (s.params.crtcOffset r) d)) := by
  cases r <;> first | exact absurd hr (by decide) | exact congrArg _ (tierTwoWrite_capable hv _ _ _)

theorem exec_scratchRead_unlocked {s : State} (hv : s.params.variant = .capable) (h : s.block.gate2 = true) :
    exec .rrScratch s = .next (s.answer s.block.scratch) :=
  congrArg _ ((tierTwoRead_capable hv _ _).trans (guardedRead_unlocked (Block.view_two_unlocked h) _ _))

theorem exec_scratchWrite_unlocked {s : State} (hv : s.params.variant = .capable) (h : s.block.gate2 = true) (d : Byte) :
    exec (.rwScratch d) s =
      .next ((s.setBlock { s.block with scratch := d }).notify (.regWrite (.crtc .scratch) d)) :=
  congrArg _ ((tierTwoWrite_capable hv _ _ _).trans (guardedWrite_unlocked (Block.view_two_unlocked h) _ _ _ _))

theorem exec_crtcRead_locked {s : State} (hv : s.params.variant = .capable) (h : s.block.gate2 = false) {r : CrtcReg}
    (hr : r ≠ .status2) :
    exec r.readInstr s = .next ((s.notify (.lockedRead .two (s.params.crtcOffset r))).answer 0xFF) := by
  rcases crtcReg_cases r with rfl | rfl | hres
  · exact absurd rfl hr
  · exact congrArg _ ((tierTwoRead_capable hv _ _).trans (guardedRead_locked (Block.view_two_locked h) _ _))
  · exact exec_reservedRead hv hres

theorem exec_crtcWrite_locked {s : State} (hv : s.params.variant = .capable) (h : s.block.gate2 = false) {r : CrtcReg}
    (hr : r ≠ .status2) (d : Byte) :
    exec (r.writeInstr d) s = .next (s.notify (.lockedWrite .two (s.params.crtcOffset r) d)) := by
  rcases crtcReg_cases r with rfl | rfl | hres
  · exact absurd rfl hr
  · exact congrArg _ ((tierTwoWrite_capable hv _ _ _).trans (guardedWrite_locked (Block.view_two_locked h) _ _ _ _))
  · exact exec_reservedWrite hv hres d

theorem exec_status2Read {s : State} (hv : s.params.variant = .capable) :
    exec .rrStatus2 s = .next (s.answer (s.block.t2sb ||| lockCode s.block.gate2)) :=
  congrArg _ (tierTwoRead_capable hv _ _)

theorem exec_status2Write {s : State} (hv : s.params.variant = .capable) (d : Byte) :
    exec (.rwStatus2 d) s =
      .next (((s.setBlock { s.block with gate2 := decide (d &&& 0x07 = 0x05), t2sb := d &&& 0x70 }).notify
        (.gateTransition .two (decide (d &&& 0x07 = 0x05)))).notify (.regWrite (.crtc .status2) d)) := by
  simp only [exec, execRwStatus2, tierTwoWrite_capable hv, statusWrite, unlocks_eq, scratchBits, scratchMask]

theorem exec_crtcRead_base {s : State} (hv : s.params.variant = .base) (r : CrtcReg) :
    exec r.readInstr s = .next (delegatedRead .crtc (s.params.crtcOffset r) s) := by
  cases r <;> exact congrArg _ (tierTwoRead_base hv _ _)

theorem exec_crtcWrite_base {s : State} (hv : s.params.variant = .base) (r : CrtcReg) (d : Byte) :
    exec (r.writeInstr d) s = .next (delegatedWrite .crtc (s.params.crtcOffset r) d s) := by
  cases r <;> exact congrArg _ (tierTwoWrite_base hv _ _ _)

/-! All of it at once. -/

/-- Everything an operation can do: from `s`, the operation leaves the state. One constructor for each way an access ends. -/
inductive Effect (s : State) : Instr → State → Prop where
  | gcReadLocked (r : GcReg) (hr : r ≠ .status1) (h : s.block.gate1 = false) :
      Effect s r.readInstr ((s.notify (.lockedRead .one (s.params.gcOffset r))).answer 0xFF)
  | gcRead (r : GcReg) (hr : r ≠ .status1) (h : s.block.gate1 = true) :
      Effect s r.readInstr (s.answer (gcReadback s.params.aoffbMask s.block r))
  | gcWriteLocked (r : GcReg) (d : Byte) (hr : r ≠ .status1) (h : s.block.gate1 = false) :
      Effect s (r.writeInstr d) (s.notify (.lockedWrite .one (s.params.gcOffset r) d))
  | gcWrite (r : GcReg) (d : Byte) (hr : r ≠ .status1) (h : s.block.gate1 = true) :
      Effect s (r.writeInstr d) ((s.setBlock (gcWritten s.block r d)).notify (.regWrite (.gc r) d))
  | status1Read : Effect s .rrStatus1 (s.answer (lockCode s.block.gate1))
  | status1Write (d : Byte) :
      Effect s (.rwStatus1 d) (((s.setBlock { s.block with gate1 := decide (d &&& 0x07 = 0x05) }).notify
        (.gateTransition .one (decide (d &&& 0x07 = 0x05)))).notify (.regWrite (.gc .status1) d))
  | crtcReadInert (r : CrtcReg) (hr : r ≠ .status2) (hv : s.params.variant = .capable)
      (h : s.block.gate2 = false ∨ r.reserved = true) :
      Effect s r.readInstr ((s.notify (.lockedRead .two (s.params.crtcOffset r))).answer 0xFF)
  | crtcWriteInert (r : CrtcReg) (d : Byte) (hr : r ≠ .status2) (hv : s.params.variant = .capable)
      (h : s.block.gate2 = false ∨ r.reserved = true) :
      Effect s (r.writeInstr d) (s.notify (.lockedWrite .two (s.params.crtcOffset r) d))
  | scratchRead (hv : s.params.variant = .capable) (h : s.block.gate2 = true) :
      Effect s .rrScratch (s.answer s.block.scratch)
  | scratchWrite (d : Byte) (hv : s.params.variant = .capable) (h : s.block.gate2 = true) :
      Effect s (.rwScratch d) ((s.setBlock { s.block with scratch := d }).notify (.regWrite (.crtc .scratch) d))
  | status2Read (hv : s.params.variant = .capable) :
      Effect s .rrStatus2 (s.answer (s.block.t2sb ||| lockCode s.block.gate2))
  | status2Write (d : Byte) (hv : s.params.variant = .capable) :
      Effect s (.rwStatus2 d)
        (((s.setBlock { s.block with gate2 := decide (d &&& 0x07 = 0x05), t2sb := d &&& 0x70 }).notify
          (.gateTransition .two (decide (d &&& 0x07 = 0x05)))).notify (.regWrite (.crtc .status2) d))
  | crtcReadBase (r : CrtcReg) (hv : s.params.variant = .base) :
      Effect s r.readInstr (delegatedRead .crtc (s.params.crtcOffset r) s)
  | crtcWriteBase (r : CrtcReg) (d : Byte) (hv : s.params.variant = .base) :
      Effect s (r.writeInstr d) (delegatedWrite .crtc (s.params.crtcOffset r) d s)
  | gcBaseRead (a : Byte) : Effect s (.rrGcBase a) (delegatedRead .gc a s)
  | gcBaseWrite (a d : Byte) : Effect s (.rwGcBase a d) (delegatedWrite .gc a d s)
  | crtcBaseRead (a : Byte) : Effect s (.rrCrtcBase a) (delegatedRead .crtc a s)
  | crtcBaseWrite (a d : Byte) : Effect s (.rwCrtcBase a d) (delegatedWrite .crtc a d s)
  | mr (off : Nat) : Effect s (.mr off) (windowRead off s)
  | mw (off : Nat) (d : Byte) : Effect s (.mw off d) (windowWrite off d s)
  | reset : Effect s .reset (s.setBlock blockAfterReset)

/-- From an equation for exec and the effect it is, the effect of any next state exec answers. -/
theorem Effect.of_eq {i : Instr} {s t t' : State} (e : Effect s i t) (h : exec i s = .next t) (h' : exec i s = .next t') :
    Effect s i t' := by
  rw [h] at h'
  cases h'
  exact e

/-- If exec answers a next state, it is one of the effects above. -/
theorem exec_effect {i : Instr} {s t : State} (h : exec i s = .next t) : Effect s i t := by
  rcases instr_cases i with ⟨r, rfl⟩ | ⟨r, d, rfl⟩ | ⟨r, rfl⟩ | ⟨r, d, rfl⟩ | ⟨a, rfl⟩ | ⟨a, d, rfl⟩ | ⟨a, rfl⟩ | ⟨a, d, rfl⟩ |
    ⟨o, rfl⟩ | ⟨o, d, rfl⟩ | rfl
  · by_cases hr : r = .status1
    · subst hr
      exact Effect.status1Read.of_eq rfl h
    · cases hg : s.block.gate1
      · exact (Effect.gcReadLocked r hr hg).of_eq (exec_gcRead_locked hg hr) h
      · exact (Effect.gcRead r hr hg).of_eq (exec_gcRead_unlocked hg hr) h
  · by_cases hr : r = .status1
    · subst hr
      exact (Effect.status1Write d).of_eq (exec_status1Write s d) h
    · cases hg : s.block.gate1
      · exact (Effect.gcWriteLocked r d hr hg).of_eq (exec_gcWrite_locked hg hr d) h
      · exact (Effect.gcWrite r d hr hg).of_eq (exec_gcWrite_unlocked hg hr d) h
  · cases hv : s.params.variant
    · exact (Effect.crtcReadBase r hv).of_eq (exec_crtcRead_base hv r) h
    · rcases crtcReg_cases r with rfl | rfl | hres
      · exact (Effect.status2Read hv).of_eq (exec_status2Read hv) h
      · cases hg : s.block.gate2
        · exact (Effect.crtcReadInert .scratch (by decide) hv (.inl hg)).of_eq (exec_crtcRead_locked hv hg (by decide)) h
        · exact (Effect.scratchRead hv hg).of_eq (exec_scratchRead_unlocked hv hg) h
      · have hr : r ≠ .status2 := fun hr => by subst hr; exact absurd hres (by decide)
        exact (Effect.crtcReadInert r hr hv (.inr hres)).of_eq (exec_reservedRead hv hres) h
  · cases hv : s.params.variant
    · exact (Effect.crtcWriteBase r d hv).of_eq (exec_crtcWrite_base hv r d) h
    · rcases crtcReg_cases r with rfl | rfl | hres
      · exact (Effect.status2Write d hv).of_eq (exec_status2Write hv d) h
      · cases hg : s.block.gate2
        · exact (Effect.crtcWriteInert .scratch d (by decide) hv (.inl hg)).of_eq (exec_crtcWrite_locked hv hg (by decide) d) h
        · exact (Effect.scratchWrite d hv hg).of_eq (exec_scratchWrite_unlocked hv hg d) h
      · have hr : r ≠ .status2 := fun hr => by subst hr; exact absurd hres (by decide)
        exact (Effect.crtcWriteInert r d hr hv (.inr hres)).of_eq (exec_reservedWrite hv hres d) h
  · exact (Effect.gcBaseRead a).of_eq rfl h
  · exact (Effect.gcBaseWrite a d).of_eq rfl h
  · exact (Effect.crtcBaseRead a).of_eq rfl h
  · exact (Effect.crtcBaseWrite a d).of_eq rfl h
  · exact (Effect.mr o).of_eq rfl h
  · exact (Effect.mw o d).of_eq rfl h
  · exact Effect.reset.of_eq rfl h

/-- Once `i` has left the calls and the store alone, the next memory access is where the block it leaves translates the offset to. -/
theorem nextMemoryAccessAt_of {i : Instr} {s t : State} (h : exec i s = .next t) (hc : t.calls = s.calls) (hm : t.mem = s.mem)
    (off : Nat) : NextMemoryAccessAt i s off (t.block.translate off) := by
  refine ⟨⟨windowRead off t, by simp only [runAll, h]; rfl, ?_, fun a => ?_⟩,
    fun e => ⟨windowWrite off e t, by simp only [runAll, h]; rfl, ?_, fun hi => ?_, fun a ha => ?_⟩⟩
  · exact congrArg (· ++ _) hc
  · exact congrArg (Memory.read · a) hm
  · exact congrArg (· ++ _) hc
  · exact t.memByte_setMemByte_same (hm ▸ hi.2.2.2.1) _ _
  · exact (t.memByte_setMemByte_other _ ha).trans (congrArg (Memory.read · a) hm)

end Sys2Proof.Machine
end

