-- ==== Sys2Proof/Laws/PerInstr.lean ====
section
/-!
SUPPORT. Every operation's word agrees with its row of spec/opcode_table.json: the bits the row fixes have the row's value. The two
tables below are the rows' own "fixed" entries (every row fixes the bits 31 down to one place), written from the JSON and not from
the encoder.
-/

namespace Sys2Proof.Laws.TableRow

/-- The lowest bit the operation's row fixes: the row fixes bits 31 down to it. -/
def fixedFrom (i : Instr) : Nat :=
  match i with
  | .rrAoffa => 8
  | .rwAoffa _ => 8
  | .rrAoffb => 8
  | .rwAoffb _ => 8
  | .rrMemsize => 8
  | .rwMemsize _ => 8
  | .rrVsel => 8
  | .rwVsel _ => 8
  | .rrCrtclock => 8
  | .rwCrtclock _ => 8
  | .rrVctl => 8
  | .rwVctl _ => 8
  | .rrStatus1 => 8
  | .rwStatus1 _ => 8
  | .rrStatus2 => 8
  | .rwStatus2 _ => 8
  | .rrRsvd2A => 8
  | .rwRsvd2A _ => 8
  | .rrScratch => 8
  | .rwScratch _ => 8
  | .rrRsvd2C => 8
  | .rwRsvd2C _ => 8
  | .rrRsvd2D => 8
  | .rwRsvd2D _ => 8
  | .rrRsvd2E => 8
  | .rwRsvd2E _ => 8
  | .rrRsvd2F => 8
  | .rwRsvd2F _ => 8
  | .rrRsvd30 => 8
  | .rwRsvd30 _ => 8
  | .rrRsvd31 => 8
  | .rwRsvd31 _ => 8
  | .rrRsvd32 => 8
  | .rwRsvd32 _ => 8
  | .rrRsvd33 => 8
  | .rwRsvd33 _ => 8
  | .rrRsvd34 => 8
  | .rwRsvd34 _ => 8
  | .rrRsvd35 => 8
  | .rwRsvd35 _ => 8
  | .rrRsvd36 => 8
  | .rwRsvd36 _ => 8
  | .rrRsvd37 => 8
  | .rwRsvd37 _ => 8
  | .rrRsvd38 => 8
  | .rwRsvd38 _ => 8
  | .rrRsvd39 => 8
  | .rwRsvd39 _ => 8
  | .rrRsvd3A => 8
  | .rwRsvd3A _ => 8
  | .rrRsvd3B => 8
  | .rwRsvd3B _ => 8
  | .rrRsvd3C => 8
  | .rwRsvd3C _ => 8
  | .rrRsvd3D => 8
  | .rwRsvd3D _ => 8
  | .rrRsvd3E => 8
  | .rwRsvd3E _ => 8
  | .rrRsvd3F => 8
  | .rwRsvd3F _ => 8
  | .rrGcBase _ => 16
  | .rwGcBase _ _ => 16
  | .rrCrtcBase _ => 16
  | .rwCrtcBase _ _ => 16
  | .mr _ => 28
  | .mw _ _ => 28
  | .reset => 0

/-- The value of the bits the operation's row fixes. -/
def fixedValue (i : Instr) : Nat :=
  match i with
  | .rrAoffa => 0x100009
  | .rwAoffa _ => 0x200009
  | .rrAoffb => 0x10000A
  | .rwAoffb _ => 0x20000A
  | .rrMemsize => 0x10000B
  | .rwMemsize _ => 0x20000B
  | .rrVsel => 0x10000C
  | .rwVsel _ => 0x20000C
  | .rrCrtclock => 0x10000D
  | .rwCrtclock _ => 0x20000D
  | .rrVctl => 0x10000E
  | .rwVctl _ => 0x20000E
  | .rrStatus1 => 0x10000F
  | .rwStatus1 _ => 0x20000F
  | .rrStatus2 => 0x110029
  | .rwStatus2 _ => 0x210029
  | .rrRsvd2A => 0x11002A
  | .rwRsvd2A _ => 0x21002A
  | .rrScratch => 0x11002B
  | .rwScratch _ => 0x21002B
  | .rrRsvd2C => 0x11002C
  | .rwRsvd2C _ => 0x21002C
  | .rrRsvd2D => 0x11002D
  | .rwRsvd2D _ => 0x21002D
  | .rrRsvd2E => 0x11002E
  | .rwRsvd2E _ => 0x21002E
  | .rrRsvd2F => 0x11002F
  | .rwRsvd2F _ => 0x21002F
  | .rrRsvd30 => 0x110030
  | .rwRsvd30 _ => 0x210030
  | .rrRsvd31 => 0x110031
  | .rwRsvd31 _ => 0x210031
  | .rrRsvd32 => 0x110032
  | .rwRsvd32 _ => 0x210032
  | .rrRsvd33 => 0x110033
  | .rwRsvd33 _ => 0x210033
  | .rrRsvd34 => 0x110034
  | .rwRsvd34 _ => 0x210034
  | .rrRsvd35 => 0x110035
  | .rwRsvd35 _ => 0x210035
  | .rrRsvd36 => 0x110036
  | .rwRsvd36 _ => 0x210036
  | .rrRsvd37 => 0x110037
  | .rwRsvd37 _ => 0x210037
  | .rrRsvd38 => 0x110038
  | .rwRsvd38 _ => 0x210038
  | .rrRsvd39 => 0x110039
  | .rwRsvd39 _ => 0x210039
  | .rrRsvd3A => 0x11003A
  | .rwRsvd3A _ => 0x21003A
  | .rrRsvd3B => 0x11003B
  | .rwRsvd3B _ => 0x21003B
  | .rrRsvd3C => 0x11003C
  | .rwRsvd3C _ => 0x21003C
  | .rrRsvd3D => 0x11003D
  | .rwRsvd3D _ => 0x21003D
  | .rrRsvd3E => 0x11003E
  | .rwRsvd3E _ => 0x21003E
  | .rrRsvd3F => 0x11003F
  | .rwRsvd3F _ => 0x21003F
  | .rrGcBase _ => 0x1000
  | .rwGcBase _ _ => 0x2000
  | .rrCrtcBase _ => 0x1100
  | .rwCrtcBase _ _ => 0x2100
  | .mr _ => 0x3
  | .mw _ _ => 0x4
  | .reset => 0x0

/-- At the default parameters, the operation's word has the value its row fixes in the bits its row fixes. -/
def Statement (i : Instr) : Prop :=
  i.wf Params.default = true → (encode Params.default i).toNat / 2 ^ fixedFrom i = fixedValue i

theorem regWord_fixed8 (kind : BitVec 4) (space : Space) (addr data : Byte) :
    (regWord kind space addr data).toNat / 2 ^ 8 =
      kind.toNat * 2 ^ 20 + (spaceCode space).toNat * 2 ^ 16 + addr.toNat := by
  have := data.isLt
  rw [regWord_toNat]
  omega

theorem regWord_fixed16 (kind : BitVec 4) (space : Space) (addr data : Byte) :
    (regWord kind space addr data).toNat / 2 ^ 16 = kind.toNat * 2 ^ 12 + (spaceCode space).toNat * 2 ^ 8 := by
  have := data.isLt; have := addr.isLt
  rw [regWord_toNat]
  omega

theorem memWord_fixed (kind : BitVec 4) (offset : Nat) (data : Byte) :
    (memWord kind offset data).toNat / 2 ^ 28 = kind.toNat := by
  have := data.isLt
  rw [memWord_toNat]
  omega

theorem rrAoffa : Statement (.rrAoffa) := fun _ => regWord_fixed8 1 .gc (Params.default.gcOffset .aoffa) 0

theorem rwAoffa (data : Byte) : Statement (.rwAoffa data) := fun _ => regWord_fixed8 2 .gc (Params.default.gcOffset .aoffa) data

theorem rrAoffb : Statement (.rrAoffb) := fun _ => regWord_fixed8 1 .gc (Params.default.gcOffset .aoffb) 0

theorem rwAoffb (data : Byte) : Statement (.rwAoffb data) := fun _ => regWord_fixed8 2 .gc (Params.default.gcOffset .aoffb) data

theorem rrMemsize : Statement (.rrMemsize) := fun _ => regWord_fixed8 1 .gc (Params.default.gcOffset .memsize) 0

theorem rwMemsize (data : Byte) : Statement (.rwMemsize data) := fun _ => regWord_fixed8 2 .gc (Params.default.gcOffset .memsize) data

theorem rrVsel : Statement (.rrVsel) := fun _ => regWord_fixed8 1 .gc (Params.default.gcOffset .vsel) 0

theorem rwVsel (data : Byte) : Statement (.rwVsel data) := fun _ => regWord_fixed8 2 .gc (Params.default.gcOffset .vsel) data

theorem rrCrtclock : Statement (.rrCrtclock) := fun _ => regWord_fixed8 1 .gc (Params.default.gcOffset .crtclock) 0

theorem rwCrtclock (data : Byte) : Statement (.rwCrtclock data) := fun _ => regWord_fixed8 2 .gc (Params.default.gcOffset .crtclock) data

theorem rrVctl : Statement (.rrVctl) := fun _ => regWord_fixed8 1 .gc (Params.default.gcOffset .vctl) 0

theorem rwVctl (data : Byte) : Statement (.rwVctl data) := fun _ => regWord_fixed8 2 .gc (Params.default.gcOffset .vctl) data

theorem rrStatus1 : Statement (.rrStatus1) := fun _ => regWord_fixed8 1 .gc (Params.default.gcOffset .status1) 0

theorem rwStatus1 (data : Byte) : Statement (.rwStatus1 data) := fun _ => regWord_fixed8 2 .gc (Params.default.gcOffset .status1) data

theorem rrStatus2 : Statement (.rrStatus2) := fun _ => regWord_fixed8 1 .crtc (Params.default.crtcOffset .status2) 0

theorem rwStatus2 (data : Byte) : Statement (.rwStatus2 data) := fun _ => regWord_fixed8 2 .crtc (Params.default.crtcOffset .status2) data

theorem rrRsvd2A : Statement (.rrRsvd2A) := fun _ => regWord_fixed8 1 .crtc (Params.default.crtcOffset .rsvd2A) 0

theorem rwRsvd2A (data : Byte) : Statement (.rwRsvd2A data) := fun _ => regWord_fixed8 2 .crtc (Params.default.crtcOffset .rsvd2A) data

theorem rrScratch : Statement (.rrScratch) := fun _ => regWord_fixed8 1 .crtc (Params.default.crtcOffset .scratch) 0

theorem rwScratch (data : Byte) : Statement (.rwScratch data) := fun _ => regWord_fixed8 2 .crtc (Params.default.crtcOffset .scratch) data

theorem rrRsvd2C : Statement (.rrRsvd2C) := fun _ => regWord_fixed8 1 .crtc (Params.default.crtcOffset .rsvd2C) 0

theorem rwRsvd2C (data : Byte) : Statement (.rwRsvd2C data) := fun _ => regWord_fixed8 2 .crtc (Params.default.crtcOffset .rsvd2C) data

theorem rrRsvd2D : Statement (.rrRsvd2D) := fun _ => regWord_fixed8 1 .crtc (Params.default.crtcOffset .rsvd2D) 0

theorem rwRsvd2D (data : Byte) : Statement (.rwRsvd2D data) := fun _ => regWord_fixed8 2 .crtc (Params.default.crtcOffset .rsvd2D) data

theorem rrRsvd2E : Statement (.rrRsvd2E) := fun _ => regWord_fixed8 1 .crtc (Params.default.crtcOffset .rsvd2E) 0

theorem rwRsvd2E (data : Byte) : Statement (.rwRsvd2E data) := fun _ => regWord_fixed8 2 .crtc (Params.default.crtcOffset .rsvd2E) data

theorem rrRsvd2F : Statement (.rrRsvd2F) := fun _ => regWord_fixed8 1 .crtc (Params.default.crtcOffset .rsvd2F) 0

theorem rwRsvd2F (data : Byte) : Statement (.rwRsvd2F data) := fun _ => regWord_fixed8 2 .crtc (Params.default.crtcOffset .rsvd2F) data

theorem rrRsvd30 : Statement (.rrRsvd30) := fun _ => regWord_fixed8 1 .crtc (Params.default.crtcOffset .rsvd30) 0

theorem rwRsvd30 (data : Byte) : Statement (.rwRsvd30 data) := fun _ => regWord_fixed8 2 .crtc (Params.default.crtcOffset .rsvd30) data

theorem rrRsvd31 : Statement (.rrRsvd31) := fun _ => regWord_fixed8 1 .crtc (Params.default.crtcOffset .rsvd31) 0

theorem rwRsvd31 (data : Byte) : Statement (.rwRsvd31 data) := fun _ => regWord_fixed8 2 .crtc (Params.default.crtcOffset .rsvd31) data

theorem rrRsvd32 : Statement (.rrRsvd32) := fun _ => regWord_fixed8 1 .crtc (Params.default.crtcOffset .rsvd32) 0

theorem rwRsvd32 (data : Byte) : Statement (.rwRsvd32 data) := fun _ => regWord_fixed8 2 .crtc (Params.default.crtcOffset .rsvd32) data

theorem rrRsvd33 : Statement (.rrRsvd33) := fun _ => regWord_fixed8 1 .crtc (Params.default.crtcOffset .rsvd33) 0

theorem rwRsvd33 (data : Byte) : Statement (.rwRsvd33 data) := fun _ => regWord_fixed8 2 .crtc (Params.default.crtcOffset .rsvd33) data

theorem rrRsvd34 : Statement (.rrRsvd34) := fun _ => regWord_fixed8 1 .crtc (Params.default.crtcOffset .rsvd34) 0

theorem rwRsvd34 (data : Byte) : Statement (.rwRsvd34 data) := fun _ => regWord_fixed8 2 .crtc (Params.default.crtcOffset .rsvd34) data

theorem rrRsvd35 : Statement (.rrRsvd35) := fun _ => regWord_fixed8 1 .crtc (Params.default.crtcOffset .rsvd35) 0

theorem rwRsvd35 (data : Byte) : Statement (.rwRsvd35 data) := fun _ => regWord_fixed8 2 .crtc (Params.default.crtcOffset .rsvd35) data

theorem rrRsvd36 : Statement (.rrRsvd36) := fun _ => regWord_fixed8 1 .crtc (Params.default.crtcOffset .rsvd36) 0

theorem rwRsvd36 (data : Byte) : Statement (.rwRsvd36 data) := fun _ => regWord_fixed8 2 .crtc (Params.default.crtcOffset .rsvd36) data

theorem rrRsvd37 : Statement (.rrRsvd37) := fun _ => regWord_fixed8 1 .crtc (Params.default.crtcOffset .rsvd37) 0

theorem rwRsvd37 (data : Byte) : Statement (.rwRsvd37 data) := fun _ => regWord_fixed8 2 .crtc (Params.default.crtcOffset .rsvd37) data

theorem rrRsvd38 : Statement (.rrRsvd38) := fun _ => regWord_fixed8 1 .crtc (Params.default.crtcOffset .rsvd38) 0

theorem rwRsvd38 (data : Byte) : Statement (.rwRsvd38 data) := fun _ => regWord_fixed8 2 .crtc (Params.default.crtcOffset .rsvd38) data

theorem rrRsvd39 : Statement (.rrRsvd39) := fun _ => regWord_fixed8 1 .crtc (Params.default.crtcOffset .rsvd39) 0

theorem rwRsvd39 (data : Byte) : Statement (.rwRsvd39 data) := fun _ => regWord_fixed8 2 .crtc (Params.default.crtcOffset .rsvd39) data

theorem rrRsvd3A : Statement (.rrRsvd3A) := fun _ => regWord_fixed8 1 .crtc (Params.default.crtcOffset .rsvd3A) 0

theorem rwRsvd3A (data : Byte) : Statement (.rwRsvd3A data) := fun _ => regWord_fixed8 2 .crtc (Params.default.crtcOffset .rsvd3A) data

theorem rrRsvd3B : Statement (.rrRsvd3B) := fun _ => regWord_fixed8 1 .crtc (Params.default.crtcOffset .rsvd3B) 0

theorem rwRsvd3B (data : Byte) : Statement (.rwRsvd3B data) := fun _ => regWord_fixed8 2 .crtc (Params.default.crtcOffset .rsvd3B) data

theorem rrRsvd3C : Statement (.rrRsvd3C) := fun _ => regWord_fixed8 1 .crtc (Params.default.crtcOffset .rsvd3C) 0

theorem rwRsvd3C (data : Byte) : Statement (.rwRsvd3C data) := fun _ => regWord_fixed8 2 .crtc (Params.default.crtcOffset .rsvd3C) data

theorem rrRsvd3D : Statement (.rrRsvd3D) := fun _ => regWord_fixed8 1 .crtc (Params.default.crtcOffset .rsvd3D) 0

theorem rwRsvd3D (data : Byte) : Statement (.rwRsvd3D data) := fun _ => regWord_fixed8 2 .crtc (Params.default.crtcOffset .rsvd3D) data

theorem rrRsvd3E : Statement (.rrRsvd3E) := fun _ => regWord_fixed8 1 .crtc (Params.default.crtcOffset .rsvd3E) 0

theorem rwRsvd3E (data : Byte) : Statement (.rwRsvd3E data) := fun _ => regWord_fixed8 2 .crtc (Params.default.crtcOffset .rsvd3E) data

theorem rrRsvd3F : Statement (.rrRsvd3F) := fun _ => regWord_fixed8 1 .crtc (Params.default.crtcOffset .rsvd3F) 0

theorem rwRsvd3F (data : Byte) : Statement (.rwRsvd3F data) := fun _ => regWord_fixed8 2 .crtc (Params.default.crtcOffset .rsvd3F) data

theorem rrGcBase (addr : Byte) : Statement (.rrGcBase addr) := fun _ => regWord_fixed16 1 .gc addr 0

theorem rwGcBase (addr : Byte) (data : Byte) : Statement (.rwGcBase addr data) := fun _ => regWord_fixed16 2 .gc addr data

theorem rrCrtcBase (addr : Byte) : Statement (.rrCrtcBase addr) := fun _ => regWord_fixed16 1 .crtc addr 0

theorem rwCrtcBase (addr : Byte) (data : Byte) : Statement (.rwCrtcBase addr data) := fun _ => regWord_fixed16 2 .crtc addr data

theorem mr (offset : Nat) : Statement (.mr offset) := fun _ => memWord_fixed 3 offset 0

theorem mw (offset : Nat) (data : Byte) : Statement (.mw offset data) := fun _ => memWord_fixed 4 offset data

theorem reset : Statement (.reset) := fun _ => rfl

end Sys2Proof.Laws.TableRow
end

