-- ==== Sys2Proof/Laws/Step.lean ====
section
/-!
SUPPORT. What one step says of the operation it performs, and the equations of a run of steps behind the host's interface.
-/

namespace Sys2Proof.Machine

/-- If a step answers a next state, then exec answered it for the operation of the first pending word. -/
theorem step_next {s t : State} (h : step s = .next t) :
    ∃ w rest i, s.pending = w :: rest ∧ decode s.params w = .ok i ∧ exec i { s with pending := rest } = .next t := by
  unfold step at h
  split at h
  · cases h
  · rename_i w rest hp
    split at h
    · cases h
    · rename_i i hd
      exact ⟨w, rest, i, hp, hd, h⟩

/-- A run whose first step answers a next state goes on from there. -/
theorem run_of_next (M : Host.Core) (n : Nat) {s t : M.State} (h : M.step s = .next t) :
    Host.Core.run M (n + 1) s = Host.Core.run M n t := by
  simp only [Host.Core.run, h]

/-- A run whose first step is refused is refused. -/
theorem run_of_refused (M : Host.Core) (n : Nat) {s : M.State} {r : M.Refusal} (h : M.step s = .refused r) :
    Host.Core.run M (n + 1) s = .refused r := by
  simp only [Host.Core.run, h]

/-- A run of the machine whose first step answers a next state goes on from there. -/
theorem core_run_of_next (n : Nat) {s t : State} (h : step s = .next t) :
    Host.Core.run Sys2Proof.core (n + 1) s = Host.Core.run Sys2Proof.core n t :=
  run_of_next Sys2Proof.core n h

/-- A run of the machine whose first step is refused is refused. -/
theorem core_run_of_refused (n : Nat) {s : State} {r : Refusal} (h : step s = .refused r) :
    Host.Core.run Sys2Proof.core (n + 1) s = .refused r :=
  run_of_refused Sys2Proof.core n h

end Sys2Proof.Machine
end

