-- ==== Sys2Proof/Tests/Slice0.lean ====
section
/-!
SUPPORT. The model's own tests: terms WellFormed refuses, words written out from the spec's encoding, single operations with results
taken from 95_test_vectors.md, and for every statement with hypotheses a state and operands that meet them.
-/

namespace Sys2Proof.Tests

open Sys2Proof Sys2Proof.Machine

/-! Well-formedness: one ill-formed term for each check, and a well-formed neighbour. -/

/-- A BASE instance. -/
def baseParams : Params := { Params.default with variant := .base }

/-- A tier-2 row is an operation of a CAPABLE instance only (R43). -/
theorem test_wf_refuses_tier_two_in_base :
    Instr.wf baseParams .rrScratch = false ∧ Instr.wf baseParams (.rwStatus2 0x05) = false ∧
    Instr.wf Params.default .rrScratch = true ∧ Instr.wf Params.default (.rwStatus2 0x05) = true := by decide

/-- A claimed offset is no delegated access (R45), at both ends of each claimed range. -/
theorem test_wf_refuses_claimed_offsets :
    Instr.wf Params.default (.rrGcBase 0x09) = false ∧ Instr.wf Params.default (.rwGcBase 0x0F 0x00) = false ∧
    Instr.wf Params.default (.rrCrtcBase 0x29) = false ∧ Instr.wf Params.default (.rwCrtcBase 0x3F 0x00) = false ∧
    Instr.wf Params.default (.rrGcBase 0x08) = true ∧ Instr.wf Params.default (.rwGcBase 0x10 0x00) = true ∧
    Instr.wf Params.default (.rrCrtcBase 0x28) = true ∧ Instr.wf Params.default (.rwCrtcBase 0x40 0x00) = true ∧
    Instr.wf baseParams (.rrCrtcBase 0x29) = true := by decide

/-- A window offset has OFFSET_BITS bits (R38). -/
theorem test_wf_refuses_wide_offsets :
    Instr.wf Params.default (.mr 0x10000) = false ∧ Instr.wf Params.default (.mw 0x10000 0x00) = false ∧
    Instr.wf Params.default (.mr 0xFFFF) = true ∧ Instr.wf Params.default (.mw 0xFFFF 0x00) = true := by decide

/-- OFFSET_BITS the word cannot carry, a mask R5 does not allow, and an address map that leaves a register out. -/
theorem test_params_wf_refuses :
    Params.wf { Params.default with offsetBits := 21 } = false ∧
    Params.wf { Params.default with aoffbMask := 0x3F } = false ∧
    Params.wf { Params.default with
                gcMap := #v[.aoffa, .aoffa, .memsize, .vsel, .crtclock, .vctl, .status1] } = false ∧
    Params.wf { Params.default with crtcMap := Vector.replicate 23 CrtcReg.scratch } = false ∧
    Params.wf Params.default = true ∧
    Params.wf { baseParams with offsetBits := 20, aoffbMask := 0x7F, baseline := .reference } = true := by decide

/-! Decoding: every row of the opcode table, by a word written out from R33 and R39. -/

/-- Each register of R33 in GC, by a word written out from R39 with a byte of its own in bits 7 to 0. -/
theorem test_decode_tier_one :
    decode Params.default 0x1000093C = .ok .rrAoffa ∧
    decode Params.default 0x200009A6 = .ok (.rwAoffa 0xA6) ∧
    decode Params.default 0x10000A3C = .ok .rrAoffb ∧
    decode Params.default 0x20000AA6 = .ok (.rwAoffb 0xA6) ∧
    decode Params.default 0x10000B3C = .ok .rrMemsize ∧
    decode Params.default 0x20000BA6 = .ok (.rwMemsize 0xA6) ∧
    decode Params.default 0x10000C3C = .ok .rrVsel ∧
    decode Params.default 0x20000CA6 = .ok (.rwVsel 0xA6) ∧
    decode Params.default 0x10000D3C = .ok .rrCrtclock ∧
    decode Params.default 0x20000DA6 = .ok (.rwCrtclock 0xA6) ∧
    decode Params.default 0x10000E3C = .ok .rrVctl ∧
    decode Params.default 0x20000EA6 = .ok (.rwVctl 0xA6) ∧
    decode Params.default 0x10000F3C = .ok .rrStatus1 ∧
    decode Params.default 0x20000FA6 = .ok (.rwStatus1 0xA6) := by
  decide

/-- The tier-2 registers that have a handler (R33), and the reserved offset between them. -/
theorem test_decode_tier_two_handlers :
    decode Params.default 0x1100293C = .ok .rrStatus2 ∧
    decode Params.default 0x210029A6 = .ok (.rwStatus2 0xA6) ∧
    decode Params.default 0x11002A3C = .ok .rrRsvd2A ∧
    decode Params.default 0x21002AA6 = .ok (.rwRsvd2A 0xA6) ∧
    decode Params.default 0x11002B3C = .ok .rrScratch ∧
    decode Params.default 0x21002BA6 = .ok (.rwScratch 0xA6) := by
  decide

/-- Reserved offsets of tier 2 (R33), low part. -/
theorem test_decode_reserved_low :
    decode Params.default 0x11002C3C = .ok .rrRsvd2C ∧
    decode Params.default 0x21002CA6 = .ok (.rwRsvd2C 0xA6) ∧
    decode Params.default 0x11002D3C = .ok .rrRsvd2D ∧
    decode Params.default 0x21002DA6 = .ok (.rwRsvd2D 0xA6) ∧
    decode Params.default 0x11002E3C = .ok .rrRsvd2E ∧
    decode Params.default 0x21002EA6 = .ok (.rwRsvd2E 0xA6) ∧
    decode Params.default 0x11002F3C = .ok .rrRsvd2F ∧
    decode Params.default 0x21002FA6 = .ok (.rwRsvd2F 0xA6) ∧
    decode Params.default 0x1100303C = .ok .rrRsvd30 ∧
    decode Params.default 0x210030A6 = .ok (.rwRsvd30 0xA6) ∧
    decode Params.default 0x1100313C = .ok .rrRsvd31 ∧
    decode Params.default 0x210031A6 = .ok (.rwRsvd31 0xA6) ∧
    decode Params.default 0x1100323C = .ok .rrRsvd32 ∧
    decode Params.default 0x210032A6 = .ok (.rwRsvd32 0xA6) := by
  decide

/-- Reserved offsets of tier 2 (R33), middle part. -/
theorem test_decode_reserved_middle :
    decode Params.default 0x1100333C = .ok .rrRsvd33 ∧
    decode Params.default 0x210033A6 = .ok (.rwRsvd33 0xA6) ∧
    decode Params.default 0x1100343C = .ok .rrRsvd34 ∧
    decode Params.default 0x210034A6 = .ok (.rwRsvd34 0xA6) ∧
    decode Params.default 0x1100353C = .ok .rrRsvd35 ∧
    decode Params.default 0x210035A6 = .ok (.rwRsvd35 0xA6) ∧
    decode Params.default 0x1100363C = .ok .rrRsvd36 ∧
    decode Params.default 0x210036A6 = .ok (.rwRsvd36 0xA6) ∧
    decode Params.default 0x1100373C = .ok .rrRsvd37 ∧
    decode Params.default 0x210037A6 = .ok (.rwRsvd37 0xA6) ∧
    decode Params.default 0x1100383C = .ok .rrRsvd38 ∧
    decode Params.default 0x210038A6 = .ok (.rwRsvd38 0xA6) ∧
    decode Params.default 0x1100393C = .ok .rrRsvd39 ∧
    decode Params.default 0x210039A6 = .ok (.rwRsvd39 0xA6) := by
  decide

/-- Reserved offsets of tier 2 (R33), high part. -/
theorem test_decode_reserved_high :
    decode Params.default 0x11003A3C = .ok .rrRsvd3A ∧
    decode Params.default 0x21003AA6 = .ok (.rwRsvd3A 0xA6) ∧
    decode Params.default 0x11003B3C = .ok .rrRsvd3B ∧
    decode Params.default 0x21003BA6 = .ok (.rwRsvd3B 0xA6) ∧
    decode Params.default 0x11003C3C = .ok .rrRsvd3C ∧
    decode Params.default 0x21003CA6 = .ok (.rwRsvd3C 0xA6) ∧
    decode Params.default 0x11003D3C = .ok .rrRsvd3D ∧
    decode Params.default 0x21003DA6 = .ok (.rwRsvd3D 0xA6) ∧
    decode Params.default 0x11003E3C = .ok .rrRsvd3E ∧
    decode Params.default 0x21003EA6 = .ok (.rwRsvd3E 0xA6) ∧
    decode Params.default 0x11003F3C = .ok .rrRsvd3F ∧
    decode Params.default 0x21003FA6 = .ok (.rwRsvd3F 0xA6) := by
  decide

/-- The delegated rows at their lowest and highest offsets, the memory rows at both ends of the window, and RESET (R39, R43). -/
theorem test_decode_the_other_rows :
    decode Params.default 0x10000000 = .ok (.rrGcBase 0x00) ∧
    decode Params.default 0x1000FF7E = .ok (.rrGcBase 0xFF) ∧
    decode Params.default 0x200010A6 = .ok (.rwGcBase 0x10 0xA6) ∧
    decode Params.default 0x11002800 = .ok (.rrCrtcBase 0x28) ∧
    decode Params.default 0x210040A6 = .ok (.rwCrtcBase 0x40 0xA6) ∧
    decode Params.default 0x30000000 = .ok (.mr 0x0000) ∧
    decode Params.default 0x30FFFF99 = .ok (.mr 0xFFFF) ∧
    decode Params.default 0x401234A6 = .ok (.mw 0x1234 0xA6) ∧
    decode Params.default 0x00000000 = .ok .reset := by decide

/-- In BASE the tier-2 offsets are delegated (R107; V-X1). -/
theorem test_decode_tier_two_in_base :
    decode baseParams 0x21002905 = .ok (.rwCrtcBase 0x29 0x05) ∧ decode baseParams 0x11002B00 = .ok (.rrCrtcBase 0x2B) ∧
    decode baseParams 0x20000F05 = .ok (.rwStatus1 0x05) := by decide

/-- Each refusal of R40, with the least and the greatest KIND and SPACE that are none. -/
theorem test_decode_refusals :
    decode Params.default 0x50000000 = .error .unknownKind ∧ decode Params.default 0xF0000000 = .error .unknownKind ∧
    decode Params.default 0x12000900 = .error .unknownSpace ∧ decode Params.default 0x2F000900 = .error .unknownSpace ∧
    decode Params.default 0x10010900 = .error .nonzeroReservedBits ∧
    decode Params.default 0x21800900 = .error .nonzeroReservedBits ∧
    decode Params.default 0x00000001 = .error .nonzeroResetBits ∧
    decode Params.default 0x08000000 = .error .nonzeroResetBits ∧
    decode Params.default 0x31000000 = .error .offsetTooWide ∧ decode Params.default 0x4F000000 = .error .offsetTooWide := by
  decide

/-- The encoder gives the words of R39's examples. -/
theorem test_encode_examples :
    encode Params.default (.rwStatus1 0x05) = 0x20000F05 ∧ encode Params.default .rrStatus1 = 0x10000F00 ∧
    encode Params.default (.rwStatus2 0x85) = 0x21002985 ∧ encode Params.default (.mr 0x10) = 0x30001000 ∧
    encode Params.default (.mw 0x10 0x55) = 0x40001055 ∧ encode Params.default .reset = 0x00000000 := by decide

/-- The host's view of the decoder: the word's bits as they are; a word that is no operation, and bits above the word, give none. -/
theorem test_decode_table_word :
    decodeTableWord 32 0x2000092A = some (.rwAoffa 0x2A) ∧ decodeTableWord 32 0x50000000 = none ∧
    decodeTableWord 40 0x100000000 = none := by decide

/-! Single operations. The states: both tiers open and every field filled, the same with both tiers locked, and others. -/

/-- A block with both gates open and every field filled. -/
def filled : Block where
  gate1 := true
  gate2 := true
  bank := 0x2A
  aoffb := 0xB3
  memsize := 0x85
  vsel := 0xA5
  crtclock := 0x20
  vctl := 0xFF
  t2sb := 0x30
  scratch := 0x5A

/-- A CAPABLE instance over the reference baseline, both tiers open, two bytes of the store written. -/
def opened : State :=
  { State.resetOn { Params.default with baseline := .reference } with
    block := filled, mem := [(0x10, 0x11), (0x2A010, 0x5A)], gcBase := [(0x08, 0x44)] }

/-- The same with both tiers locked. -/
def locked : State := { opened with block := { filled with gate1 := false, gate2 := false } }

/-- The same as `opened` with the window off: bit 0 of VCTL clear. -/
def windowOff : State := { opened with block := { filled with vctl := 0xFE } }

/-- A BASE instance over the reference baseline with tier 1 open. -/
def onBase : State :=
  { State.resetOn { baseParams with baseline := .reference } with
    block := { filled with gate2 := false, t2sb := 0x00, scratch := 0x00 } }

/-- The block an outcome leaves. -/
def blockOf (r : Result) : Option Block :=
  match r with
  | .next t => some t.block
  | .fault _ => none
  | .refused _ => none

/-- The bytes an outcome returned so far. -/
def returnedOf (r : Result) : Option (List Byte) :=
  match r with
  | .next t => some t.returned
  | .fault _ => none
  | .refused _ => none

/-- The baseline calls made so far. -/
def callsOf (r : Result) : Option (List BaselineCall) :=
  match r with
  | .next t => some t.calls
  | .fault _ => none
  | .refused _ => none

/-- The byte an outcome keeps at an address of the backing store. -/
def memOf (r : Result) (ea : Nat) : Option Byte :=
  match r with
  | .next t => some (t.memByte ea)
  | .fault _ => none
  | .refused _ => none

/-- Unlocked reads of tier 1 (R77 to R88; V-R2, V-R5, V-R7, V-R10, V-R11, V-R14; V-G1). -/
theorem test_unlocked_reads_tier_one :
    returnedOf (exec .rrAoffa opened) = some [0x2A] ∧ returnedOf (exec .rrAoffb opened) = some [0xB3] ∧
    returnedOf (exec .rrMemsize opened) = some [0xC5] ∧ returnedOf (exec .rrVsel opened) = some [0xA5] ∧
    returnedOf (exec .rrCrtclock opened) = some [0x20] ∧ returnedOf (exec .rrVctl opened) = some [0xFF] ∧
    returnedOf (exec .rrStatus1 opened) = some [0x05] := by decide

/-- Locked reads of tier 1 (R64; V-V1); the status register still answers (V-G2). -/
theorem test_locked_reads_tier_one :
    returnedOf (exec .rrAoffa locked) = some [0xFF] ∧ returnedOf (exec .rrAoffb locked) = some [0xFF] ∧
    returnedOf (exec .rrMemsize locked) = some [0xFF] ∧ returnedOf (exec .rrVsel locked) = some [0xFF] ∧
    returnedOf (exec .rrCrtclock locked) = some [0xFF] ∧ returnedOf (exec .rrVctl locked) = some [0xFF] ∧
    returnedOf (exec .rrStatus1 locked) = some [0x00] := by decide

/-- Unlocked writes of tier 1: V-R3, V-R5, V-R7, V-R10, V-R11, V-R13, and V-G11 for the status register. -/
theorem test_unlocked_writes_tier_one :
    blockOf (exec (.rwAoffa 0xFF) opened) = some { filled with bank := 0x7F } ∧
    blockOf (exec (.rwAoffb 0xB4) opened) = some { filled with aoffb := 0xB4 } ∧
    blockOf (exec (.rwMemsize 0x12) opened) = some { filled with memsize := 0x12 } ∧
    blockOf (exec (.rwVsel 0x5A) opened) = some { filled with vsel := 0x5A } ∧
    blockOf (exec (.rwCrtclock 0xFF) opened) = some { filled with crtclock := 0xFF } ∧
    blockOf (exec (.rwVctl 0xFE) opened) = some { filled with vctl := 0xFE } ∧
    blockOf (exec (.rwStatus1 0x06) opened) = some { filled with gate1 := false } := by decide

/-- Locked writes of tier 1 change nothing (R65; V-V2); the status register opens the tier with 0xFD (V-G4). -/
theorem test_locked_writes_tier_one :
    blockOf (exec (.rwAoffa 0x11) locked) = some locked.block ∧ blockOf (exec (.rwAoffb 0x11) locked) = some locked.block ∧
    blockOf (exec (.rwMemsize 0x11) locked) = some locked.block ∧ blockOf (exec (.rwVsel 0x11) locked) = some locked.block ∧
    blockOf (exec (.rwCrtclock 0x11) locked) = some locked.block ∧ blockOf (exec (.rwVctl 0x00) locked) = some locked.block ∧
    blockOf (exec (.rwStatus1 0xFD) locked) = some { locked.block with gate1 := true } := by decide

/-- Tier 2, reads in both gate states: V-H12's 0x35, V-R16, V-V7; locked, the scratch bits are still reported (R58). -/
theorem test_tier_two_reads :
    returnedOf (exec .rrStatus2 opened) = some [0x35] ∧ returnedOf (exec .rrStatus2 locked) = some [0x30] ∧
    returnedOf (exec .rrScratch opened) = some [0x5A] ∧ returnedOf (exec .rrScratch locked) = some [0xFF] := by decide

/-- Tier 2, writes: V-H5 (bits 7 and 3 dropped, the gate locks, the scratch bits kept), V-H6, V-R16 and the locked write of P3. -/
theorem test_tier_two_writes :
    blockOf (exec (.rwStatus2 0xFF) opened) = some { filled with gate2 := false, t2sb := 0x70 } ∧
    blockOf (exec (.rwStatus2 0xFD) locked) = some { locked.block with gate2 := true, t2sb := 0x70 } ∧
    blockOf (exec (.rwScratch 0xA5) opened) = some { filled with scratch := 0xA5 } ∧
    blockOf (exec (.rwScratch 0xA5) locked) = some locked.block := by decide

/-- The reserved offsets read 0xFF and discard writes in both gate states (R68, R69; V-V5, V-V6). -/
theorem test_reserved_offsets_are_inert :
    (CrtcReg.all.filter CrtcReg.reserved).length = 21 ∧
    (CrtcReg.all.filter CrtcReg.reserved).all (fun r =>
      returnedOf (exec r.readInstr opened) == some [0xFF] && returnedOf (exec r.readInstr locked) == some [0xFF] &&
      blockOf (exec (r.writeInstr 0x12) opened) == some opened.block &&
      callsOf (exec (r.writeInstr 0x12) opened) == some []) = true := by decide

/-- Delegated accesses on the reference baseline (V-V8, V-V9, P4), one call each. -/
theorem test_delegated_accesses :
    returnedOf (exec (.rrGcBase 0x08) opened) = some [0x44] ∧ callsOf (exec (.rrGcBase 0x08) locked) = some [.regRead .gc 0x08] ∧
    returnedOf (exec (.rrCrtcBase 0x28) opened) = some [0x00] ∧
    callsOf (exec (.rwGcBase 0x10 0x07) opened) = some [.regWrite .gc 0x10 0x07] ∧
    callsOf (exec (.rwCrtcBase 0x40 0x07) opened) = some [.regWrite .crtc 0x40 0x07] := by decide

/-- In BASE a tier-2 operation is the delegated access of its offset (R107; V-X1). -/
theorem test_tier_two_in_base :
    callsOf (exec (.rwStatus2 0x05) onBase) = some [.regWrite .crtc 0x29 0x05] ∧
    blockOf (exec (.rwStatus2 0x05) onBase) = some onBase.block ∧
    callsOf (exec .rrScratch onBase) = some [.regRead .crtc 0x2B] ∧ returnedOf (exec .rrScratch onBase) = some [0x00] := by
  decide

/-- `translate` as a function of VCTL, BANK and the offset. -/
def translateOf (vctl : Byte) (bank : BitVec 7) (offset : Nat) : Nat :=
  Block.translate { filled with vctl := vctl, bank := bank } offset

/-- The table V-M1 to V-M12. -/
theorem test_translate_vectors :
    translateOf 0x00 0x00 0x0000 = 0x00000 ∧ translateOf 0x00 0x2A 0x0010 = 0x00010 ∧ translateOf 0xFE 0x7F 0xFFFF = 0x0FFFF ∧
    translateOf 0x01 0x00 0x0010 = 0x00010 ∧ translateOf 0x01 0x2A 0x0010 = 0x2A010 ∧ translateOf 0x01 0x01 0x0000 = 0x01000 ∧
    translateOf 0x01 0x00 0x1000 = 0x01000 ∧ translateOf 0x01 0x7F 0x0000 = 0x7F000 ∧ translateOf 0x01 0x7F 0x0FFF = 0x7FFFF ∧
    translateOf 0x01 0x7F 0xFFFF = 0x8EFFF ∧ translateOf 0xFF 0x40 0x8000 = 0x48000 ∧ translateOf 0x03 0x10 0x0FFF = 0x10FFF := by
  decide

/-- MR through the window, open or locked, and past it (P1, V-M14). -/
theorem test_memory_reads :
    returnedOf (exec (.mr 0x0010) opened) = some [0x5A] ∧ returnedOf (exec (.mr 0x0010) windowOff) = some [0x11] ∧
    callsOf (exec (.mr 0x0010) locked) = some [.memRead 0x2A010] := by decide

/-- MW through the window with tier 1 locked (P2). -/
theorem test_memory_writes :
    callsOf (exec (.mw 0x0010 0x77) locked) = some [.memWrite 0x2A010 0x77] ∧
    memOf (exec (.mw 0x0010 0x77) locked) 0x2A010 = some 0x77 ∧ memOf (exec (.mw 0x0010 0x77) locked) 0x10 = some 0x11 := by
  decide

/-- Writing the byte an unlisted address reads as removes the cell. -/
theorem test_memory_stays_canonical :
    Memory.write [(0x10, 0x11), (0x2A010, 0x5A)] 0x10 0x00 = [(0x2A010, 0x5A)] ∧
    Memory.wf (Memory.write [(0x10, 0x11)] 0x08 0x77) = true ∧ Memory.wf [(0x10, 0x11), (0x08, 0x22)] = false := by decide

/-- RESET from a filled state (R25, V-Z1), the store untouched. -/
theorem test_reset :
    blockOf (exec .reset opened) = some blockAfterReset ∧ memOf (exec .reset opened) 0x2A010 = some 0x5A := by decide

/-- A step performs the word placed first, and refuses a word that is no operation and an empty list. -/
theorem test_step :
    blockOf (step (State.reset.withFetchWord 32 0x20000F05)) = some { blockAfterReset with gate1 := true } ∧
    step (State.reset.withFetchWord 32 0x50000000) = .refused (.notAnOperation .unknownKind) ∧
    step State.reset = .refused .noOperationPending := ⟨by decide, rfl, rfl⟩

/-- The reset state meets the invariant. -/
theorem test_reset_inv : State.reset.Inv := by
  unfold State.Inv State.tierTwoAbsent
  decide

/-! Witnesses: for every statement with hypotheses, a state and operands that meet them. -/

/-- `opened` meets the invariant. -/
theorem opened_inv : opened.Inv := by
  unfold State.Inv State.tierTwoAbsent
  decide

/-- `locked` meets the invariant. -/
theorem locked_inv : locked.Inv := by
  unfold State.Inv State.tierTwoAbsent
  decide

/-- `onBase` meets the invariant. -/
theorem onBase_inv : onBase.Inv := by
  unfold State.Inv State.tierTwoAbsent
  decide

/-- A pending unlock before a pending reset. -/
def queued : State := { locked with pending := [0x20000F05, 0x00000000] }

theorem witness_StepRunsTheDecodedOperation :
    queued.pending = 0x20000F05 :: [0x00000000] ∧ decode queued.params 0x20000F05 = .ok (.rwStatus1 0x05) := by decide

theorem witness_EncodedOperationsDecodeToThemselves :
    Params.wf Params.default = true ∧ Instr.wf Params.default (.mw 0xFFFF 0xFF) = true ∧
    Instr.wf Params.default (.rwRsvd3F 0xFF) = true ∧ Instr.wf Params.default (.rrGcBase 0x10) = true := by decide

theorem witness_DecodedWordsEncodeBack :
    Params.wf Params.default = true ∧ decode Params.default 0x40FFFFFF = .ok (.mw 0xFFFF 0xFF) ∧
    (0x40FFFFFF : TransactionWord).toNat / 2 ^ 28 ≠ 1 ∧ (0x40FFFFFF : TransactionWord).toNat / 2 ^ 28 ≠ 3 := by decide

/-- One word for each clause of the refusal, at a boundary of its range, and its step. -/
theorem witness_ExactlyTheNonOperationsAreRefused :
    (∀ w ∈ ([0x50000000, 0x12000900, 0x20010900, 0x00000001, 0x31000000, 0x41000000] : List TransactionWord),
      ∃ e, decode Params.default w = .error e ∧ step { State.reset with pending := [w] } = .refused (.notAnOperation e)) := by
  intro w hw
  simp only [List.mem_cons, List.not_mem_nil, or_false] at hw
  rcases hw with rfl | rfl | rfl | rfl | rfl | rfl <;> exact ⟨_, rfl, rfl⟩

theorem witness_RunPerformsTheListHeadFirst :
    locked.params.wf = true ∧
    ∀ i ∈ [Instr.rwStatus1 0x05, .rwScratch 0x12, .rwGcBase 0x08 0x01, .mr 0xFFFF, .reset], i.wf locked.params = true := by
  decide

/-- Both ends of each list of rows, and the four neighbours of the claimed ranges. -/
theorem witness_DefaultMapPlacesTheRegisters :
    0 < 7 ∧ 6 < 7 ∧ 0 < 20 ∧ 19 < 20 ∧ ((0x08 : Byte) = 0x08 ∨ (0x08 : Byte) = 0x10) ∧
    ((0x10 : Byte) = 0x08 ∨ (0x10 : Byte) = 0x10) ∧ ((0x28 : Byte) = 0x28 ∨ (0x28 : Byte) = 0x40) ∧
    ((0x40 : Byte) = 0x28 ∨ (0x40 : Byte) = 0x40) := by decide

theorem witness_StatusTwoWriteDrivesGateTwoAndScratchBits : opened.params.variant = .capable := by decide

theorem witness_StatusTwoReadReportsGateTwoAndScratchBits :
    opened.params.variant = .capable ∧ opened.Inv ∧ locked.params.variant = .capable ∧ locked.Inv :=
  ⟨rfl, opened_inv, rfl, locked_inv⟩

theorem witness_StatusWriteThenStatusReadReportsTheCode :
    locked.params.variant = .capable ∧ (0xFD : Byte) &&& 0x07 = 0x05 ∧ (0xFF : Byte) &&& 0x07 ≠ 0x05 := by decide

/-- The least and the greatest byte that unlocks, and a byte that does not. -/
theorem witness_ExactlyThirtyTwoBytesUnlock :
    locked.params.variant = .capable ∧ (0x05 : Byte).toNat = 8 * 0 + 5 ∧ (0xFD : Byte).toNat = 8 * 31 + 5 ∧
    (0xFF : Byte) &&& 0x07 ≠ 0x05 := by decide

theorem witness_TheTwoGatesAreIndependent : opened.params.variant = .capable ∧ locked.params.variant = .capable := by decide

theorem witness_GateDependsOnTheWrittenCodeAlone :
    ∃ t t' u u', exec (.rwStatus1 0x0D) opened = .next t ∧ exec (.rwStatus1 0x0D) locked = .next t' ∧
      opened.params.variant = .capable ∧ locked.params.variant = .capable ∧
      exec (.rwStatus2 0x0D) opened = .next u ∧ exec (.rwStatus2 0x0D) locked = .next u' :=
  ⟨_, _, _, _, rfl, rfl, rfl, rfl, rfl, rfl⟩

/-- Each field is changed by its own writer. -/
theorem witness_EachFieldHasItsOwnWriterAndReset :
    blockOf (exec (.rwStatus1 0x00) opened) = some { filled with gate1 := false } ∧
    blockOf (exec (.rwStatus2 0x00) opened) = some { filled with gate2 := false, t2sb := 0x00 } ∧
    blockOf (exec (.rwAoffa 0x00) opened) = some { filled with bank := 0x00 } ∧
    blockOf (exec (.rwAoffb 0x00) opened) = some { filled with aoffb := 0x00 } ∧
    blockOf (exec (.rwMemsize 0x00) opened) = some { filled with memsize := 0x00 } ∧
    blockOf (exec (.rwVsel 0x00) opened) = some { filled with vsel := 0x00 } ∧
    blockOf (exec (.rwCrtclock 0x00) opened) = some { filled with crtclock := 0x00 } ∧
    blockOf (exec (.rwVctl 0x00) opened) = some { filled with vctl := 0x00 } ∧
    blockOf (exec (.rwScratch 0x00) opened) = some { filled with scratch := 0x00 } := by decide

theorem witness_StatusWriteSwitchesTheViewAtOnce :
    GcReg.aoffa ≠ .status1 ∧ locked.params.variant = .capable ∧ CrtcReg.rsvd2C.reserved = true ∧
    (0x05 : Byte) &&& 0x07 = 0x05 ∧ (0x04 : Byte) &&& 0x07 ≠ 0x05 := by decide

theorem witness_LockedReadsReturnTheSentinel :
    locked.block.gate1 = false ∧ GcReg.vctl ≠ .status1 ∧ locked.params.variant = .capable ∧ locked.block.gate2 = false ∧
    CrtcReg.scratch ≠ .status2 ∧ CrtcReg.rsvd3F ≠ .status2 := by decide

theorem witness_LockedWritesAreDiscarded :
    locked.block.gate1 = false ∧ GcReg.aoffa ≠ .status1 ∧ locked.params.variant = .capable ∧ locked.block.gate2 = false ∧
    CrtcReg.scratch ≠ .status2 ∧ CrtcReg.rsvd2A ≠ .status2 := by decide

/-- Either memory access, from a state with both tiers locked. -/
theorem witness_LockedWritesAreNeverRevealed :
    (Instr.mr 0x10 = .mr 0x10 ∨ Instr.mr 0x10 = .mw 0x10 0x77) ∧
    (Instr.mw 0x10 0x77 = .mr 0x10 ∨ Instr.mw 0x10 0x77 = .mw 0x10 0x77) ∧
    locked.block.gate1 = false ∧ GcReg.memsize ≠ .status1 ∧ locked.params.variant = .capable ∧
    locked.block.gate2 = false ∧ CrtcReg.scratch ≠ .status2 := by decide

theorem witness_ReservedReadsReturnTheSentinel :
    opened.params.variant = .capable ∧ CrtcReg.rsvd2A.reserved = true ∧ CrtcReg.rsvd3F.reserved = true := by decide

theorem witness_ReservedWritesAreDiscarded :
    locked.params.variant = .capable ∧ CrtcReg.rsvd2A.reserved = true ∧ CrtcReg.rsvd2C.reserved = true := by decide

/-- The offsets next to both ends of each claimed range, and a claimed CRTC offset in BASE. -/
theorem witness_UnclaimedReadsAreDelegated :
    ¬(0x09 ≤ (0x08 : Byte).toNat ∧ (0x08 : Byte).toNat ≤ 0x0F) ∧
    ¬(0x09 ≤ (0x10 : Byte).toNat ∧ (0x10 : Byte).toNat ≤ 0x0F) ∧
    ¬(0x29 ≤ (0x28 : Byte).toNat ∧ (0x28 : Byte).toNat ≤ 0x3F) ∧
    ¬(0x29 ≤ (0x40 : Byte).toNat ∧ (0x40 : Byte).toNat ≤ 0x3F) ∧ baseParams.variant = .base := by decide

/-- The offsets next to both ends of each claimed range, and a claimed CRTC offset in BASE. -/
theorem witness_UnclaimedWritesAreDelegated :
    ¬(0x09 ≤ (0x08 : Byte).toNat ∧ (0x08 : Byte).toNat ≤ 0x0F) ∧
    ¬(0x09 ≤ (0x10 : Byte).toNat ∧ (0x10 : Byte).toNat ≤ 0x0F) ∧
    ¬(0x29 ≤ (0x28 : Byte).toNat ∧ (0x28 : Byte).toNat ≤ 0x3F) ∧
    ¬(0x29 ≤ (0x40 : Byte).toNat ∧ (0x40 : Byte).toNat ≤ 0x3F) ∧ baseParams.variant = .base := by decide

theorem witness_TierTwoIsDelegatedInBase : onBase.params.variant = .base ∧ baseParams.variant = .base := by decide

/-- A state that has already called the baseline for an unclaimed offset, and is about to do so again. -/
def calling : State := { locked with calls := [.regRead .gc 0x08], pending := [0x210040A6] }

theorem witness_ClaimedAccessesNeverReachTheBaseline :
    calling.params.wf = true ∧ calling.OnlyUnclaimedCalls ∧ ∃ t, step calling = .next t := by
  refine ⟨by decide, fun c hc => ?_, _, rfl⟩
  cases List.mem_singleton.1 hc
  rfl

theorem witness_RelockingHidesAndUnlockingReveals :
    (0xFF : Byte) &&& 0x07 ≠ 0x05 ∧ (0xFD : Byte) &&& 0x07 = 0x05 ∧ opened.block.gate1 = true ∧ GcReg.aoffa ≠ .status1 ∧
    opened.params.variant = .capable ∧ opened.block.gate2 = true ∧ CrtcReg.scratch ≠ .status2 ∧
    CrtcReg.rsvd2A ≠ .status2 := by decide

theorem witness_SinkNeverAffectsBehaviour :
    (∃ t, exec .rrAoffa locked = .next t) ∧ (∃ t, exec (.rwStatus1 0x05) locked = .next t) ∧ ∃ t, step queued = .next t :=
  ⟨⟨_, rfl⟩, ⟨_, rfl⟩, _, rfl⟩

theorem witness_AoffaReadReturnsTheBank : opened.block.gate1 = true ∧ onBase.block.gate1 = true := by decide

theorem witness_AoffaWriteSelectsTheBank : opened.block.gate1 = true ∧ onBase.block.gate1 = true := by decide

theorem witness_AoffbIsStoredReadBackAndSteersNothing : opened.block.gate1 = true ∧ onBase.block.gate1 = true := by decide

theorem witness_MemsizeReadForcesTheTopBits : opened.block.gate1 = true ∧ onBase.block.gate1 = true := by decide

theorem witness_MemsizeWriteStoresTheWholeByte : opened.block.gate1 = true ∧ onBase.block.gate1 = true := by decide

theorem witness_PlainRegistersReadAsStored : opened.block.gate1 = true ∧ onBase.block.gate1 = true := by decide

theorem witness_PlainRegistersStoreTheWholeByte : opened.block.gate1 = true ∧ onBase.block.gate1 = true := by decide

theorem witness_UnlockedAccessesFollowTheOperandTable :
    opened.block.gate1 = true ∧ GcReg.memsize ≠ .status1 ∧ opened.params.variant = .capable ∧ opened.block.gate2 = true := by
  decide

/-- Tier 2 open while tier 1 is locked. -/
def onlyTierTwo : State := { opened with block := { filled with gate1 := false } }

theorem witness_ScratchIsAPlainByteStore :
    opened.params.variant = .capable ∧ opened.block.gate2 = true ∧ onlyTierTwo.params.variant = .capable ∧
    onlyTierTwo.block.gate2 = true ∧ onlyTierTwo.block.gate1 = false := by decide

/-- A claimed read, a read through the baseline, and a write, each done twice. -/
theorem witness_ReadsChangeNothingAndWritesAreIdempotent :
    (∃ t u, exec .rrMemsize opened = .next t ∧ exec .rrMemsize t = .next u ∧ t.returned = opened.returned ++ [0xC5] ∧
      t.calls = opened.calls) ∧
    (∃ t u, exec (.mr 0x0010) opened = .next t ∧ exec (.mr 0x0010) t = .next u ∧ t.returned = opened.returned ++ [0x5A]) ∧
    (∃ t u, exec (.mw 0x0010 0x77) opened = .next t ∧ exec (.mw 0x0010 0x77) t = .next u ∧ t.returned = opened.returned ∧
      opened.Inv) :=
  ⟨⟨_, _, rfl, rfl, rfl, rfl⟩, ⟨_, _, rfl, rfl, rfl⟩, ⟨_, _, rfl, rfl, rfl, opened_inv⟩⟩

/-- An operation of each shape, with the state it answers. -/
theorem witness_EveryAccessMovesAtMostOneByte :
    (∃ t, exec .rrAoffa opened = .next t) ∧ (∃ t, exec (.rwGcBase 0x08 0x01) opened = .next t) ∧
    (∃ t, exec (.mr 0x10) opened = .next t) ∧ ∃ t, exec .reset opened = .next t :=
  ⟨⟨_, rfl⟩, ⟨_, rfl⟩, ⟨_, rfl⟩, _, rfl⟩

theorem witness_DisabledWindowPassesTheOffsetThrough : windowOff.block.vctl.getLsbD 0 = false := by decide

theorem witness_EnabledWindowAddsTheBank : opened.block.vctl.getLsbD 0 = true := by decide

theorem witness_EffectiveAddressFitsInItsBits : 0xFFFF < 2 ^ 16 ∧ 0 < 2 ^ 0 := by decide

/-- The greatest bank the statement admits and a bank in the middle. -/
theorem witness_AdjacentBanksOverlap :
    opened.block.vctl.getLsbD 0 = true ∧ opened.block.bank.toNat < 127 ∧
    Block.vctl { filled with bank := 0x7E } = filled.vctl ∧ (Block.bank { filled with bank := 0x7E }).toNat < 127 := by decide

/-- Two states that agree on BANK and bit 0 of VCTL and differ in every other field and parameter. -/
theorem witness_OnlyBankAndWindowEnableSteerMemory :
    opened.block.bank = (State.block { onBase with block := { blockAfterReset with bank := 0x2A, vctl := 0x01 } }).bank ∧
    opened.block.vctl.getLsbD 0 =
      (State.block { onBase with block := { blockAfterReset with bank := 0x2A, vctl := 0x01 } }).vctl.getLsbD 0 := by decide

theorem witness_WindowChangesByThreeOperationsOnly :
    (∃ t, exec (.rwAoffa 0x11) opened = .next t ∧ t.block.bank ≠ opened.block.bank) ∧
    (∃ t, exec (.rwVctl 0x00) opened = .next t ∧ t.block.winEn ≠ opened.block.winEn) ∧ opened.block.gate1 = true :=
  ⟨⟨_, rfl, fun h => absurd h (by decide)⟩, ⟨_, rfl, fun h => absurd h (by decide)⟩, rfl⟩

/-- The last address of the reference array (0xD5FFF + 0x2A000), and another one. -/
theorem witness_ReferenceBaselineReadsBackWhatWasWritten :
    opened.Inv ∧ opened.params.baseline = .reference ∧ opened.block.translate 0xD5FFF = 2 ^ 20 - 1 ∧
    opened.block.translate 0x0000 < 2 ^ 20 ∧ opened.block.translate 0x0000 ≠ opened.block.translate 0xD5FFF :=
  ⟨opened_inv, by decide, by decide, by decide, by decide⟩

theorem witness_ResetIsSeenOnTheBusAfterUnlocking :
    (0xFD : Byte) &&& 0x07 = 0x05 ∧ opened.params.variant = .capable := by decide

theorem witness_EveryStepKeepsTheInvariant : queued.Inv ∧ ∃ t, step queued = .next t := ⟨locked_inv, _, rfl⟩

theorem witness_ResetStateMeetsTheInvariant : Params.wf Params.default = true ∧ Params.wf baseParams = true := by decide

theorem witness_NoOperationChangesTheInstance :
    (∃ t, exec (.rwAoffb 0x11) opened = .next t) ∧ ∃ t, step queued = .next t := ⟨⟨_, rfl⟩, _, rfl⟩

/-- The BASE twin of `queued`, whose words name no tier-2 register. -/
def queuedTwin : State :=
  { queued with
    params := { queued.params with variant := .base },
    block := { queued.block with gate2 := false, t2sb := 0x00, scratch := 0x00 } }

theorem witness_BaseAndCapableAgreeOffTierTwo :
    VariantsAlike queued queuedTwin ∧
    ∀ w ∈ queued.pending, ¬((w.toNat / 2 ^ 28 = 1 ∨ w.toNat / 2 ^ 28 = 2) ∧ w.toNat / 2 ^ 24 % 16 = 1 ∧
      0x29 ≤ w.toNat / 2 ^ 8 % 256 ∧ w.toNat / 2 ^ 8 % 256 ≤ 0x3F) := by
  refine ⟨⟨rfl, rfl, rfl, rfl, rfl, rfl, rfl, rfl, rfl⟩, fun w hw => ?_⟩
  simp only [queued, List.mem_cons, List.not_mem_nil, or_false] at hw
  rcases hw with rfl | rfl <;> decide

end Sys2Proof.Tests
end

section
/-!
PROOFS. When a step stops (R9, R40, R136): the equation of a step for each state of the pending list, and the totality of exec.
-/

namespace Sys2Proof.Machine

/-! The three equations of a step. -/

/-- Nothing pending: the run has ended (R136; log 6). -/
theorem step_of_nil {s : State} (hp : s.pending = []) : step s = .refused .noOperationPending := by
  simp only [step, hp]

/-- A first pending word that is no operation is refused by the decoder's name for it (R40). -/
theorem step_of_decode_error {s : State} {w : TransactionWord} {rest : List TransactionWord} {e : DecodeError}
    (hp : s.pending = w :: rest) (hd : decode s.params w = .error e) : step s = .refused (.notAnOperation e) := by
  simp only [step, hp, hd]

/-- A first pending word that is an operation is taken off and performed (R28). -/
theorem step_of_decode_ok {s : State} {w : TransactionWord} {rest : List TransactionWord} {i : Instr}
    (hp : s.pending = w :: rest) (hd : decode s.params w = .ok i) : step s = exec i { s with pending := rest } := by
  simp only [step, hp, hd]

/-- Every operation completes on every state (R9, R46). The gates, the variant and the baseline choose only which state is next: they
are read inside the meaning's `.next`, so the outcome is the same constructor whatever they are. -/
theorem exec_completes (i : Instr) (s : State) : ∃ t, exec i s = .next t := by
  cases i <;> exact ⟨_, rfl⟩

/-- Settles O6: the pending list is empty, or its first word does not decode, or that word's operation completes. -/
theorem stepStopsOnlyWithoutAnOperation : Obligations.StepStopsOnlyWithoutAnOperation := by
  intro s
  cases hp : s.pending with
  | nil => exact .inr (.inl ⟨rfl, step_of_nil hp⟩)
  | cons w rest =>
    cases hd : decode s.params w with
    | error e => exact .inr (.inr ⟨w, rest, e, rfl, hd, step_of_decode_error hp hd⟩)
    | ok i =>
      obtain ⟨t, ht⟩ := exec_completes i { s with pending := rest }
      exact .inl ⟨t, (step_of_decode_ok hp hd).trans ht⟩

end Sys2Proof.Machine
end

section
/-!
PROOFS. The invariant (R10, R20, R138): one rule for each state operation, then one case for each way an operation can end.
-/

namespace Sys2Proof.Machine

/-! What a state that meets the invariant says of the tier-2 fields. -/

theorem State.Inv.t2sb_masked {s : State} (h : s.Inv) : s.block.t2sb &&& 0x70 = s.block.t2sb := by
  obtain ⟨-, ht, -⟩ := h
  exact ht

theorem State.Inv.tierTwoAbsent_of_base {s : State} (h : s.Inv) (hv : s.params.variant = .base) : s.tierTwoAbsent := by
  obtain ⟨-, -, hb, -⟩ := h
  exact hb hv

theorem blockAfterReset_t2sb_masked : blockAfterReset.t2sb &&& 0x70 = blockAfterReset.t2sb := by decide

/-! One rule for each state operation. -/

theorem State.Inv.answer {s : State} (h : s.Inv) (v : Byte) : (s.answer v).Inv := h

theorem State.Inv.called {s : State} (h : s.Inv) (c : BaselineCall) : (s.called c).Inv := h

/-- The sink takes at most the one notice it is offered (R73). -/
theorem State.Inv.notify {s : State} (h : s.Inv) (n : Notice) : (s.notify n).Inv := by
  obtain ⟨hp, ht, hb, hm, hg, hc, hn⟩ := h
  refine ⟨hp, ht, hb, hm, hg, hc, ?_⟩
  rw [State.notify_notices, State.notify_offered]
  split
  · simpa using hn
  · omega

theorem State.Inv.setMemByte {s : State} (h : s.Inv) (ea : Nat) (v : Byte) : (s.setMemByte ea v).Inv := by
  obtain ⟨hp, ht, hb, hm, hg, hc, hn⟩ := h
  exact ⟨hp, ht, hb, Memory.wf_write hm ea v, hg, hc, hn⟩

theorem State.Inv.setBaseByte {s : State} (h : s.Inv) (space : Space) (addr v : Byte) :
    (s.setBaseByte space addr v).Inv := by
  obtain ⟨hp, ht, hb, hm, hg, hc, hn⟩ := h
  cases space with
  | gc => exact ⟨hp, ht, hb, hm, Memory.wf_write hg _ v, hc, hn⟩
  | crtc => exact ⟨hp, ht, hb, hm, hg, Memory.wf_write hc _ v, hn⟩

/-- A new block keeps the invariant if its scratch bits are in place (R20) and, in BASE, its tier-2 fields are at reset (R10). -/
theorem State.Inv.setBlock {s : State} (h : s.Inv) {b : Block} (ht : b.t2sb &&& 0x70 = b.t2sb)
    (hb : s.params.variant = .base → (s.setBlock b).tierTwoAbsent) : (s.setBlock b).Inv := by
  obtain ⟨hp, -, -, hm, hg, hc, hn⟩ := h
  exact ⟨hp, ht, hb, hm, hg, hc, hn⟩

/-- In CAPABLE only the scratch bits of a new block matter. -/
theorem State.Inv.setBlock_capable {s : State} (h : s.Inv) (hv : s.params.variant = .capable) {b : Block}
    (ht : b.t2sb &&& 0x70 = b.t2sb) : (s.setBlock b).Inv :=
  h.setBlock ht fun hbase => absurd (hv.symm.trans hbase) (by decide)

/-- A block with the same tier-2 fields keeps the invariant on either variant. -/
theorem State.Inv.setBlock_sameTierTwo {s : State} (h : s.Inv) {b : Block} (hg : b.gate2 = s.block.gate2)
    (ht : b.t2sb = s.block.t2sb) (hs : b.scratch = s.block.scratch) : (s.setBlock b).Inv := by
  refine h.setBlock (by rw [ht, h.t2sb_masked]) fun hbase => ?_
  obtain ⟨hg0, ht0, hs0⟩ := h.tierTwoAbsent_of_base hbase
  exact ⟨hg.trans hg0, ht.trans ht0, hs.trans hs0⟩

/-! The shared operations built from them. -/

theorem State.Inv.delegatedRead {s : State} (h : s.Inv) (space : Space) (addr : Byte) :
    (delegatedRead space addr s).Inv :=
  (h.called _).answer _

theorem State.Inv.delegatedWrite {s : State} (h : s.Inv) (space : Space) (addr data : Byte) :
    (delegatedWrite space addr data s).Inv :=
  (h.setBaseByte space addr data).called _

theorem State.Inv.windowRead {s : State} (h : s.Inv) (off : Nat) : (windowRead off s).Inv :=
  (h.called _).answer _

theorem State.Inv.windowWrite {s : State} (h : s.Inv) (off : Nat) (data : Byte) : (windowWrite off data s).Inv :=
  (h.setMemByte _ data).called _

/-! A tier-1 write stays in tier 1. -/

@[simp] theorem gcWritten_gate2 (b : Block) (r : GcReg) (d : Byte) : (gcWritten b r d).gate2 = b.gate2 := by
  cases r <;> rfl

@[simp] theorem gcWritten_t2sb (b : Block) (r : GcReg) (d : Byte) : (gcWritten b r d).t2sb = b.t2sb := by
  cases r <;> rfl

@[simp] theorem gcWritten_scratch (b : Block) (r : GcReg) (d : Byte) : (gcWritten b r d).scratch = b.scratch := by
  cases r <;> rfl

/-! Every operation, and so every step. -/

/-- Whatever an operation does, it keeps the invariant. -/
theorem Effect.keeps_inv {i : Instr} {s t : State} (e : Effect s i t) (h : s.Inv) : t.Inv := by
  cases e with
  | gcReadLocked | crtcReadInert => exact (h.notify _).answer _
  | gcRead | status1Read | scratchRead | status2Read => exact h.answer _
  | gcWriteLocked | crtcWriteInert => exact h.notify _
  | gcWrite r d =>
    exact (h.setBlock_sameTierTwo (gcWritten_gate2 _ r d) (gcWritten_t2sb _ r d) (gcWritten_scratch _ r d)).notify _
  | status1Write => exact ((h.setBlock_sameTierTwo rfl rfl rfl).notify _).notify _
  | scratchWrite d hv => exact (h.setBlock_capable (b := { s.block with scratch := d }) hv h.t2sb_masked).notify _
  | status2Write d hv =>
    have hbits : d &&& 0x70 &&& 0x70 = d &&& 0x70 := by rw [BitVec.and_assoc, BitVec.and_self]
    exact ((h.setBlock_capable hv hbits).notify _).notify _
  | crtcReadBase | gcBaseRead | crtcBaseRead => exact h.delegatedRead _ _
  | crtcWriteBase | gcBaseWrite | crtcBaseWrite => exact h.delegatedWrite _ _ _
  | mr => exact h.windowRead _
  | mw => exact h.windowWrite _ _
  | reset => exact h.setBlock blockAfterReset_t2sb_masked fun _ => ⟨rfl, rfl, rfl⟩

/-- Settles O56: the step performs one operation, with one word off the pending list, which the invariant does not read. -/
theorem everyStepKeepsTheInvariant : Obligations.EveryStepKeepsTheInvariant := by
  intro s t hinv hstep
  obtain ⟨w, rest, i, -, -, hexec⟩ := step_next hstep
  have htaken : State.Inv { s with pending := rest } := hinv
  exact (exec_effect hexec).keeps_inv htaken

theorem resetOn_inv {p : Params} (hp : p.wf = true) : (State.resetOn p).Inv :=
  ⟨hp, blockAfterReset_t2sb_masked, fun _ => ⟨rfl, rfl, rfl⟩, Memory.wf_nil, Memory.wf_nil, Memory.wf_nil, Nat.le_refl 0⟩

/-- Settles O57: on legal parameters the reset state has the reset block, empty stores and no notices. -/
theorem resetStateMeetsTheInvariant : Obligations.ResetStateMeetsTheInvariant :=
  ⟨resetOn_inv (by decide), fun _ => resetOn_inv⟩

/-- Settles O1: the equation of a step whose first pending word decodes. -/
theorem stepRunsTheDecodedOperation : Obligations.StepRunsTheDecodedOperation :=
  fun _ _ _ _ => step_of_decode_ok

end Sys2Proof.Machine
end

section
/-!
PROOFS. The writers of the block's ten fields (R11 to R22, R61): every block an operation can leave, then the fields one by one.
-/

namespace Sys2Proof.Machine

/-- The block after an operation: as before, or written by a tier-1 write, one of the two tier-2 writes of CAPABLE, or RESET. -/
theorem Effect.block_cases {i : Instr} {s t : State} (e : Effect s i t) :
    t.block = s.block ∨
    (∃ r d, i = GcReg.writeInstr r d ∧ (r ≠ .status1 → s.block.gate1 = true) ∧ t.block = gcWritten s.block r d) ∨
    (∃ d, i = .rwStatus2 d ∧ s.params.variant = .capable ∧
      t.block = { s.block with gate2 := decide (d &&& 0x07 = 0x05), t2sb := d &&& 0x70 }) ∨
    (∃ d, i = .rwScratch d ∧ s.params.variant = .capable ∧ s.block.gate2 = true ∧
      t.block = { s.block with scratch := d }) ∨
    (i = .reset ∧ t.block = blockAfterReset) := by
  cases e with
  | gcWrite r d hr h => exact .inr (.inl ⟨r, d, rfl, fun _ => h, rfl⟩)
  | status1Write d => exact .inr (.inl ⟨.status1, d, rfl, fun hr => absurd rfl hr, rfl⟩)
  | status2Write d hv => exact .inr (.inr (.inl ⟨d, rfl, hv, rfl⟩))
  | scratchWrite d hv h => exact .inr (.inr (.inr (.inl ⟨d, rfl, hv, h, rfl⟩)))
  | reset => exact .inr (.inr (.inr (.inr ⟨rfl, rfl⟩)))
  | gcBaseWrite | crtcBaseWrite | crtcWriteBase =>
    exact .inl (State.setBaseByte_block _ _ _ _)
  | gcReadLocked | gcRead | gcWriteLocked | status1Read | crtcReadInert | crtcWriteInert | scratchRead | status2Read
  | crtcReadBase | gcBaseRead | crtcBaseRead | mr | mw => exact .inl rfl

/-- Settles O18: RESET apart, each of the four kinds of block an operation can leave differs from the one before in the fields
of the register written only. -/
theorem eachFieldHasItsOwnWriterAndReset : Obligations.EachFieldHasItsOwnWriterAndReset := by
  intro i s t hexec hreset
  rcases (exec_effect hexec).block_cases with
    hb | ⟨r, d, rfl, hgate, hb⟩ | ⟨d, rfl, hv, hb⟩ | ⟨d, rfl, hv, hgate, hb⟩ | ⟨rfl, -⟩
  · simp [hb]
  · rw [hb]
    cases r with
    | status1 => simp [gcWritten, GcReg.writeInstr]
    | aoffa | aoffb | memsize | vsel | crtclock | vctl => simp [gcWritten, GcReg.writeInstr, hgate (by decide)]
  · simp [hb, hv]
  · simp [hb, hv, hgate]
  · exact absurd rfl hreset

end Sys2Proof.Machine
end

section
/-!
PROOFS. What a run returns, one operation at a time (R136), and the tier-1 registers read as they are stored (R83, R85, R87).
-/

namespace Sys2Proof.Machine

/-! The equations of a run of operations. -/

theorem RunReturns.nil (s : State) : RunReturns [] s [] s.block := ⟨s, rfl, by simp, rfl⟩

/-- An operation that completes and hands back the bytes `ws`, ahead of a run that returns `vs`. -/
theorem RunReturns.cons {i : Instr} {is : List Instr} {s u : State} {ws vs : List Byte} {b : Block}
    (h : exec i s = .next u) (hret : u.returned = s.returned ++ ws) (hrest : RunReturns is u vs b) :
    RunReturns (i :: is) s (ws ++ vs) b := by
  obtain ⟨t, hrun, ht, hb⟩ := hrest
  exact ⟨t, by simp only [runAll, h, hrun], by rw [ht, hret, List.append_assoc], hb⟩

/-- An operation that completes and hands nothing back, ahead of a run. -/
theorem RunReturns.cons_silent {i : Instr} {is : List Instr} {s u : State} {vs : List Byte} {b : Block}
    (h : exec i s = .next u) (hret : u.returned = s.returned) (hrest : RunReturns is u vs b) :
    RunReturns (i :: is) s vs b :=
  RunReturns.cons (ws := []) h (by rw [hret, List.append_nil]) hrest

/-- An unlocked tier-1 read ahead of a run that starts from the state it leaves (R66). -/
theorem RunReturns.cons_gcRead {s : State} (hg : s.block.gate1 = true) {r : GcReg} (hr : r ≠ .status1) {is : List Instr}
    {vs : List Byte} {b : Block}
    (hrest : RunReturns is (s.answer (gcReadback s.params.aoffbMask s.block r)) vs b) :
    RunReturns (r.readInstr :: is) s (gcReadback s.params.aoffbMask s.block r :: vs) b :=
  RunReturns.cons (exec_gcRead_unlocked hg hr) rfl hrest

/-! Tier-1 registers, unlocked. -/

/-- An operation that only hands a byte back completes inside the block. -/
theorem answersInside_of_answer {i : Instr} {s : State} {v : Byte} (h : exec i s = .next (s.answer v)) :
    AnswersInside i s v [] :=
  ⟨s.answer v, h, rfl, rfl, rfl, s.sameBytes_refl, ⟨rfl, rfl⟩, State.offered_nil rfl rfl⟩

/-- An unlocked tier-1 read returns the register's readback and changes nothing (R41, R66). -/
theorem answersInside_gcRead {s : State} (hg : s.block.gate1 = true) {r : GcReg} (hr : r ≠ .status1) :
    AnswersInside r.readInstr s (gcReadback s.params.aoffbMask s.block r) [] :=
  answersInside_of_answer (exec_gcRead_unlocked hg hr)

/-- Only the status register's write reaches GATE1 (R61). -/
theorem gcWritten_gate1 (b : Block) {r : GcReg} (hr : r ≠ .status1) (d : Byte) : (gcWritten b r d).gate1 = b.gate1 := by
  cases r with
  | status1 => exact absurd rfl hr
  | aoffa | aoffb | memsize | vsel | crtclock | vctl => rfl

/-- An unlocked tier-1 write followed by a read of the same register returns the readback of what was stored (R41). -/
theorem runReturns_gcWrite_gcRead {s : State} (hg : s.block.gate1 = true) {r : GcReg} (hr : r ≠ .status1) (d : Byte) :
    RunReturns [r.writeInstr d, r.readInstr] s [gcReadback s.params.aoffbMask (gcWritten s.block r d) r]
      (gcWritten s.block r d) :=
  have hg' : (gcWritten s.block r d).gate1 = true := (gcWritten_gate1 s.block hr d).trans hg
  RunReturns.cons_silent (exec_gcWrite_unlocked hg hr d) rfl (RunReturns.cons_gcRead hg' hr (RunReturns.nil _))

/-- Settles O36: the readback of each of the three registers is its stored byte, and after RESET and the unlocking write the
stored bytes are the reset values. -/
theorem plainRegistersReadAsStored : Obligations.PlainRegistersReadAsStored := by
  refine fun s => ⟨fun hg => ⟨?_, ?_, ?_, rfl, fun d => ⟨?_, ?_, ?_⟩⟩, { blockAfterReset with gate1 := true }, ?_⟩
  · exact answersInside_gcRead hg (r := .vsel) (by decide)
  · exact answersInside_gcRead hg (r := .crtclock) (by decide)
  · exact answersInside_gcRead hg (r := .vctl) (by decide)
  · exact runReturns_gcWrite_gcRead hg (r := .vsel) (by decide) d
  · exact runReturns_gcWrite_gcRead hg (r := .crtclock) (by decide) d
  · exact runReturns_gcWrite_gcRead hg (r := .vctl) (by decide) d
  · have hreset : exec .reset s = .next (s.setBlock blockAfterReset) := rfl
    refine .cons_silent hreset rfl (.cons_silent (exec_status1Write _ 0x05) rfl ?_)
    exact .cons_gcRead (r := .vsel) rfl (by decide) <| .cons_gcRead (r := .crtclock) rfl (by decide) <|
      .cons_gcRead (r := .vctl) rfl (by decide) (.nil _)

end Sys2Proof.Machine
end

section
/-!
PROOFS. What an operation adds to the two records of a run, by the KIND of its word: the byte it returns (R29) and the baseline call it
makes (R38).
-/

namespace Sys2Proof.Machine

/-! The KIND of an operation's word (R39). -/

theorem kindField_of_eq_regWord (kind : BitVec 4) {w : TransactionWord} {space : Space} {addr data : Byte}
    (h : w = regWord kind space addr data) : kindField w = kind.toNat :=
  h ▸ kindField_regWord kind space addr data

theorem kindField_of_eq_memWord (kind : BitVec 4) {w : TransactionWord} {offset : Nat} {data : Byte}
    (h : w = memWord kind offset data) : kindField w = kind.toNat :=
  h ▸ kindField_memWord kind offset data

theorem kindField_encode_reset (p : Params) : kindField (encode p .reset) = 0 := by
  simp [encode, Instr.transaction, Transaction.word, kindField]

/-! The byte returned and the call made. -/

/-- An RR or MR hands one byte back and leaves the block, every kept byte and the parameters alone; any other operation hands none
back (R29, R34). -/
theorem Effect.returned_cases {i : Instr} {s t : State} (e : Effect s i t) :
    ((kindField (encode s.params i) = 1 ∨ kindField (encode s.params i) = 3) ∧
      (∃ v, t.returned = s.returned ++ [v]) ∧ t.block = s.block ∧ s.SameBytes t ∧ s.SameInstance t) ∨
    ((kindField (encode s.params i) = 0 ∨ kindField (encode s.params i) = 2 ∨ kindField (encode s.params i) = 4) ∧
      t.returned = s.returned) := by
  cases e with
  | gcReadLocked r | gcRead r =>
    exact .inl ⟨.inl (kindField_of_eq_regWord 1 (encode_gcRead _ r)), ⟨_, rfl⟩, rfl, s.sameBytes_refl, rfl, rfl⟩
  | crtcReadInert r | crtcReadBase r =>
    exact .inl ⟨.inl (kindField_of_eq_regWord 1 (encode_crtcRead _ r)), ⟨_, rfl⟩, rfl, s.sameBytes_refl, rfl, rfl⟩
  | status1Read | scratchRead | status2Read | gcBaseRead | crtcBaseRead =>
    exact .inl ⟨.inl (kindField_of_eq_regWord 1 rfl), ⟨_, rfl⟩, rfl, s.sameBytes_refl, rfl, rfl⟩
  | mr => exact .inl ⟨.inr (kindField_of_eq_memWord 3 rfl), ⟨_, rfl⟩, rfl, s.sameBytes_refl, rfl, rfl⟩
  | gcWriteLocked r d | gcWrite r d =>
    exact .inr ⟨.inr (.inl (kindField_of_eq_regWord 2 (encode_gcWrite _ r d))), rfl⟩
  | crtcWriteInert r d | crtcWriteBase r d =>
    exact .inr ⟨.inr (.inl (kindField_of_eq_regWord 2 (encode_crtcWrite _ r d))), rfl⟩
  | status1Write | scratchWrite | status2Write | gcBaseWrite | crtcBaseWrite =>
    exact .inr ⟨.inr (.inl (kindField_of_eq_regWord 2 rfl)), rfl⟩
  | mw => exact .inr ⟨.inr (.inr (kindField_of_eq_memWord 4 rfl)), rfl⟩
  | reset => exact .inr ⟨.inl (kindField_encode_reset _), rfl⟩

/-- An operation makes one baseline call, or none; one that makes none is a register access or RESET (R38). -/
theorem Effect.calls_cases {i : Instr} {s t : State} (e : Effect s i t) :
    (t.calls = s.calls ∧ (kindField (encode s.params i) = 0 ∨ kindField (encode s.params i) = 1 ∨
      kindField (encode s.params i) = 2)) ∨
    ∃ c, t.calls = s.calls ++ [c] := by
  cases e with
  | gcReadLocked r | gcRead r => exact .inl ⟨rfl, .inr (.inl (kindField_of_eq_regWord 1 (encode_gcRead _ r)))⟩
  | crtcReadInert r => exact .inl ⟨rfl, .inr (.inl (kindField_of_eq_regWord 1 (encode_crtcRead _ r)))⟩
  | status1Read | scratchRead | status2Read => exact .inl ⟨rfl, .inr (.inl (kindField_of_eq_regWord 1 rfl))⟩
  | gcWriteLocked r d | gcWrite r d => exact .inl ⟨rfl, .inr (.inr (kindField_of_eq_regWord 2 (encode_gcWrite _ r d)))⟩
  | crtcWriteInert r d => exact .inl ⟨rfl, .inr (.inr (kindField_of_eq_regWord 2 (encode_crtcWrite _ r d)))⟩
  | status1Write | scratchWrite | status2Write => exact .inl ⟨rfl, .inr (.inr (kindField_of_eq_regWord 2 rfl))⟩
  | reset => exact .inl ⟨rfl, .inl (kindField_encode_reset _)⟩
  | crtcReadBase | gcBaseRead | crtcBaseRead | crtcWriteBase | gcBaseWrite | crtcBaseWrite | mr | mw => exact .inr ⟨_, rfl⟩

/-- Settles O41: whatever the operation's effect, the KIND of its word says what it returned and which call it may leave out. -/
theorem everyAccessMovesAtMostOneByte : Obligations.EveryAccessMovesAtMostOneByte := by
  intro i s t hexec
  have e := exec_effect hexec
  rw [← kindField_eq]
  constructor
  · rcases e.returned_cases with ⟨hkind, hret, -⟩ | ⟨hkind, hret⟩
    · exact .inl ⟨hkind, hret⟩
    · exact .inr ⟨by omega, by omega, hret⟩
  · rcases e.calls_cases with ⟨hcalls, hkind⟩ | hcall
    · exact .inl ⟨hcalls, by omega, by omega⟩
    · exact .inr hcall

end Sys2Proof.Machine
end

section
/-!
PROOFS. An operation done twice (R34): a claimed read returns the same byte again, and a write or RESET leaves what it left the first
time.
-/

namespace Sys2Proof.Machine

/-- A record that has grown by one entry is not what it was. -/
theorem append_singleton_ne_self {α : Type} (l : List α) (a : α) : l ++ [a] ≠ l :=
  mt List.append_right_eq_self.mp (List.cons_ne_nil a [])

/-- A read that makes no call takes its byte from the block and the parameters only: on any state with the same two it returns the same
byte (R34). -/
theorem Effect.claimedRead_sameByte {i : Instr} {s t s' : State} (e : Effect s i t) (hcalls : t.calls = s.calls)
    (hret : t.returned ≠ s.returned) (hb : s'.block = s.block) (hp : s'.params = s.params) :
    ∃ v u, t.returned = s.returned ++ [v] ∧ exec i s' = .next u ∧ u.returned = s'.returned ++ [v] := by
  cases e with
  | gcReadLocked r hr h => exact ⟨_, _, rfl, exec_gcRead_locked (hb ▸ h) hr, rfl⟩
  | gcRead r hr h => exact ⟨_, _, rfl, exec_gcRead_unlocked (hb ▸ h) hr, by rw [hb, hp]; rfl⟩
  | status1Read => exact ⟨_, _, rfl, exec_status1Read s', by rw [hb]; rfl⟩
  | crtcReadInert r hr hv h =>
    rcases h with hlocked | hres
    · exact ⟨_, _, rfl, exec_crtcRead_locked (hp ▸ hv) (hb ▸ hlocked) hr, rfl⟩
    · exact ⟨_, _, rfl, exec_reservedRead (hp ▸ hv) hres, rfl⟩
  | scratchRead hv h => exact ⟨_, _, rfl, exec_scratchRead_unlocked (hp ▸ hv) (hb ▸ h), by rw [hb]; rfl⟩
  | status2Read hv => exact ⟨_, _, rfl, exec_status2Read (hp ▸ hv), by rw [hb]; rfl⟩
  | crtcReadBase | gcBaseRead | crtcBaseRead | mr => exact absurd hcalls (append_singleton_ne_self _ _)
  | gcWriteLocked | gcWrite | status1Write | crtcWriteInert | scratchWrite | status2Write | mw | reset => exact absurd rfl hret
  | crtcWriteBase | gcBaseWrite | crtcBaseWrite => exact absurd (State.setBaseByte_returned _ _ _ _) hret

/-! A byte written where it already stands. -/

theorem gcWritten_gcWritten (b : Block) (r : GcReg) (d : Byte) : gcWritten (gcWritten b r d) r d = gcWritten b r d := by
  cases r <;> rfl

/-- On a canonical store, handing `MemWrite` the byte already kept at its address changes no byte. -/
theorem State.Inv.sameBytes_setMemByte {s : State} (h : s.Inv) {ea : Nat} {v : Byte} (hv : s.memByte ea = v) :
    s.SameBytes (s.setMemByte ea v) := by
  obtain ⟨-, -, -, hm, -⟩ := h
  refine ⟨fun a => ?_, fun _ _ => rfl⟩
  by_cases ha : a = ea
  · rw [ha, hv, s.memByte_setMemByte_same hm]
  · exact s.memByte_setMemByte_other v ha

/-- On canonical stores, handing `BaseRegWrite` the byte already kept at its offset changes no byte. -/
theorem State.Inv.sameBytes_setBaseByte {s : State} (h : s.Inv) {space : Space} {addr v : Byte} (hv : s.baseByte space addr = v) :
    s.SameBytes (s.setBaseByte space addr v) := by
  obtain ⟨-, -, -, -, hg, hc, -⟩ := h
  refine ⟨s.memByte_setBaseByte space addr v, fun space' addr' => ?_⟩
  by_cases ha : space' = space ∧ addr' = addr
  · obtain ⟨rfl, rfl⟩ := ha
    rw [hv, s.baseByte_setBaseByte_same hg hc]
  · exact s.baseByte_setBaseByte_other space space' v ha

theorem State.Inv.sameBytes_windowWrite_twice {s : State} (h : s.Inv) (off : Nat) (d : Byte) :
    (Machine.windowWrite off d s).SameBytes (Machine.windowWrite off d (Machine.windowWrite off d s)) := by
  have hkept : (Machine.windowWrite off d s).memByte (s.block.translate off) = d := by
    obtain ⟨-, -, -, hm, -⟩ := h
    exact s.memByte_setMemByte_same hm _ d
  exact (h.windowWrite off d).sameBytes_setMemByte hkept

theorem State.Inv.sameBytes_delegatedWrite_twice {s : State} (h : s.Inv) (space : Space) (addr d : Byte) :
    (Machine.delegatedWrite space addr d s).SameBytes
      (Machine.delegatedWrite space addr d (Machine.delegatedWrite space addr d s)) := by
  have hkept : (Machine.delegatedWrite space addr d s).baseByte space addr = d := by
    obtain ⟨-, -, -, -, hg, hc, -⟩ := h
    exact s.baseByte_setBaseByte_same hg hc space addr d
  exact (h.delegatedWrite space addr d).sameBytes_setBaseByte hkept

/-- A write or RESET, done again, leaves the block and every kept byte as it left them the first time (R34). -/
theorem Effect.write_settles {i : Instr} {s t : State} (e : Effect s i t) (hret : t.returned = s.returned) (hinv : s.Inv) :
    ∃ u, exec i t = .next u ∧ u.block = t.block ∧ t.SameBytes u := by
  cases e with
  | gcWriteLocked r d hr h => exact ⟨_, exec_gcWrite_locked (s := s.notify _) h hr d, rfl, State.sameBytes_refl _⟩
  | gcWrite r d hr h =>
    exact ⟨_, exec_gcWrite_unlocked (s := (s.setBlock _).notify _) ((gcWritten_gate1 _ hr d).trans h) hr d,
      gcWritten_gcWritten _ r d, State.sameBytes_refl _⟩
  | status1Write d => exact ⟨_, exec_status1Write _ d, rfl, State.sameBytes_refl _⟩
  | crtcWriteInert r d hr hv h =>
    rcases h with hlocked | hres
    · exact ⟨_, exec_crtcWrite_locked (s := s.notify _) hv hlocked hr d, rfl, State.sameBytes_refl _⟩
    · exact ⟨_, exec_reservedWrite (s := s.notify _) hv hres d, rfl, State.sameBytes_refl _⟩
  | scratchWrite d hv h =>
    refine ⟨_, exec_scratchWrite_unlocked ?_ ?_ d, rfl, State.sameBytes_refl _⟩
    exacts [hv, h]
  | status2Write d hv =>
    refine ⟨_, exec_status2Write ?_ d, rfl, State.sameBytes_refl _⟩
    exact hv
  | crtcWriteBase r d hv =>
    exact ⟨_, exec_crtcWrite_base (s := delegatedWrite .crtc _ _ s) hv r d, rfl, hinv.sameBytes_delegatedWrite_twice _ _ d⟩
  | gcBaseWrite | crtcBaseWrite => exact ⟨_, rfl, rfl, hinv.sameBytes_delegatedWrite_twice _ _ _⟩
  | mw off d => exact ⟨_, rfl, rfl, hinv.sameBytes_windowWrite_twice off d⟩
  | reset => exact ⟨_, rfl, rfl, State.sameBytes_refl _⟩
  | gcReadLocked | gcRead | status1Read | crtcReadInert | scratchRead | status2Read | crtcReadBase | gcBaseRead | crtcBaseRead
  | mr => exact absurd hret (append_singleton_ne_self _ _)

/-- Settles O40: the operation's effect says whether it is a read, which leaves the state that decides a claimed read's byte, or a
write, which finds its own bytes the second time. -/
theorem readsChangeNothingAndWritesAreIdempotent : Obligations.ReadsChangeNothingAndWritesAreIdempotent := by
  intro s t u i hfirst hsecond
  have e := exec_effect hfirst
  have hframe : (∃ v, t.returned = s.returned ++ [v]) → t.block = s.block ∧ s.SameBytes t ∧ s.SameInstance t := by
    rintro ⟨v, hv⟩
    rcases e.returned_cases with ⟨-, -, hleft⟩ | ⟨-, hret⟩
    · exact hleft
    · exact absurd (hv.symm.trans hret) (append_singleton_ne_self _ v)
  refine ⟨hframe, fun v hv hcalls => ?_, fun hret hinv => ?_⟩
  · obtain ⟨hblock, -, hparams, -⟩ := hframe ⟨v, hv⟩
    obtain ⟨v', u', hv', hagain, hu'⟩ :=
      e.claimedRead_sameByte hcalls (hv ▸ append_singleton_ne_self _ v) hblock hparams
    cases hsecond.symm.trans hagain
    obtain rfl : v = v' := by simpa using hv.symm.trans hv'
    rw [hu', hv, List.append_assoc, List.singleton_append]
  · obtain ⟨u', hagain, hsettled⟩ := e.write_settles hret hinv
    cases hsecond.symm.trans hagain
    exact hsettled

end Sys2Proof.Machine
end

section
/-!
PROOFS. The default address map (R33; D1, D3): where it puts each register, and what an access there decodes to.
-/

namespace Sys2Proof

theorem params_default_wf : Params.default.wf = true := by decide

/-- The twenty registers from CRTC 0x2C on, all reserved (R33; D3). -/
def reservedFrom2C : List CrtcReg := CrtcReg.all.drop 3

theorem gcOffset_default : ∀ k, (h : k < GcReg.all.length) →
    Params.default.gcOffset GcReg.all[k] = BitVec.ofNat 8 (0x09 + k) := by decide

theorem crtcOffset_default : ∀ k, (h : k < reservedFrom2C.length) →
    Params.default.crtcOffset reservedFrom2C[k] = BitVec.ofNat 8 (0x2C + k) := by decide

/-- The tier-1 registers answer from GC 0x09 up, in the table's order. -/
theorem decode_gcAccess_default (d : Byte) (k : Nat) (h : k < GcReg.all.length) :
    decode Params.default (regWord 1 .gc (BitVec.ofNat 8 (0x09 + k)) d) =
      .ok ((GcReg.all.map GcReg.readInstr)[k]'(by simpa using h)) ∧
    decode Params.default (regWord 2 .gc (BitVec.ofNat 8 (0x09 + k)) d) =
      .ok ((GcReg.all.map (GcReg.writeInstr · d))[k]'(by simpa using h)) := by
  simp only [List.getElem_map, ← gcOffset_default k h]
  exact decode_gcAccess params_default_wf _ d

/-- The reserved registers after SCRATCH answer from CRTC 0x2C up, in the table's order. -/
theorem decode_crtcAccess_default (d : Byte) (k : Nat) (h : k < reservedFrom2C.length) :
    decode Params.default (regWord 1 .crtc (BitVec.ofNat 8 (0x2C + k)) d) =
      .ok ((reservedFrom2C.map CrtcReg.readInstr)[k]'(by simpa using h)) ∧
    decode Params.default (regWord 2 .crtc (BitVec.ofNat 8 (0x2C + k)) d) =
      .ok ((reservedFrom2C.map (CrtcReg.writeInstr · d))[k]'(by simpa using h)) := by
  simp only [List.getElem_map, ← crtcOffset_default k h]
  exact decode_crtcAccess params_default_wf rfl _ d

/-- Settles O9: an access at the offset of a register of the map decodes to the register's row, and the statement's lists are those rows
in the table's order; the four offsets next to the claimed ranges are classified as delegated (R42). -/
theorem defaultMapPlacesTheRegisters : Obligations.DefaultMapPlacesTheRegisters := by
  intro d
  have crtc (r : CrtcReg) := decode_crtcAccess params_default_wf rfl r d
  refine ⟨fun k h => (decode_gcAccess_default d k h).1, fun k h => (decode_gcAccess_default d k h).2,
    (crtc .status2).1, (crtc .status2).2, (crtc .rsvd2A).1, (crtc .rsvd2A).2, (crtc .scratch).1, (crtc .scratch).2,
    fun k h => (decode_crtcAccess_default d k h).1, fun k h => (decode_crtcAccess_default d k h).2, ?_, ?_⟩
  · rintro a (rfl | rfl) <;> exact ⟨decode_readWord _ _ _ d, decode_writeWord _ _ _ d⟩
  · rintro a (rfl | rfl) <;> exact ⟨decode_readWord _ _ _ d, decode_writeWord _ _ _ d⟩

end Sys2Proof
end

section
/-!
PROOFS. The word form (R39) and the address map (R33) run backwards: a word is rebuilt from its fields, a claimed offset from the register
the map puts there. So encoding and decoding undo each other, and the words that do not decode are R40's.
-/

namespace Sys2Proof

/-! A word rebuilt from its fields. -/

theorem eq_zero_of_fields {w : TransactionWord} (hk : kindField w = 0) (hr : resetField w = 0) : w = 0 := by
  rw [kindField_eq] at hk
  rw [resetField_eq] at hr
  apply BitVec.eq_of_toNat_eq
  change w.toNat = 0
  omega

theorem eq_regWord_of_fields {w : TransactionWord} {kind : BitVec 4} {space : Space} (hk : kindField w = kind.toNat)
    (hs : parseSpace w = .ok space) : w = regWord kind space (addrField w) (dataField w) := by
  obtain ⟨hres, hsp⟩ := (parseSpace_ok_iff w space).mp hs
  rw [kindField_eq] at hk
  rw [reservedField_eq] at hres
  rw [spaceField_eq] at hsp
  apply BitVec.eq_of_toNat_eq
  rw [regWord_toNat, addrField_toNat, dataField_toNat]
  omega

theorem eq_memWord_of_fields {w : TransactionWord} {kind : BitVec 4} (hk : kindField w = kind.toNat) :
    w = memWord kind (offsetField w) (dataField w) := by
  rw [kindField_eq] at hk
  apply BitVec.eq_of_toNat_eq
  rw [memWord_toNat, offsetField_eq, dataField_toNat]
  omega

/-- The data byte of a register access is bits 7 to 0 of its word only. -/
theorem regWord_above_data (kind : BitVec 4) (space : Space) (addr d e : Byte) :
    (regWord kind space addr d).toNat / 2 ^ 8 = (regWord kind space addr e).toNat / 2 ^ 8 := by
  have := d.isLt; have := e.isLt
  rw [regWord_toNat, regWord_toNat]
  omega

/-- The data byte of a memory access is bits 7 to 0 of its word only. -/
theorem memWord_above_data (kind : BitVec 4) (offset : Nat) (d e : Byte) :
    (memWord kind offset d).toNat / 2 ^ 8 = (memWord kind offset e).toNat / 2 ^ 8 := by
  have := d.isLt; have := e.isLt
  rw [memWord_toNat, memWord_toNat]
  omega

theorem parseSpace_ok_exists_iff (w : TransactionWord) :
    (∃ space, parseSpace w = .ok space) ↔ reservedField w = 0 ∧ spaceField w < 2 := by
  simp only [parseSpace_ok_iff]
  constructor
  · rintro ⟨space, hres, hsp⟩
    exact ⟨hres, hsp ▸ spaceCode_toNat_lt space⟩
  · rintro ⟨hres, hlt⟩
    obtain hsp | hsp : spaceField w = 0 ∨ spaceField w = 1 := by omega
    · exact ⟨.gc, hres, hsp⟩
    · exact ⟨.crtc, hres, hsp⟩

/-! A register found at a claimed offset stands at that offset. -/

/-- A list no longer than a duplicate-free list whose every element it holds has no duplicates itself. -/
theorem nodup_of_subset_of_length_le {α : Type} {l m : List α} (hl : l.Nodup) (hsub : l ⊆ m) (hlen : m.length ≤ l.length) :
    m.Nodup :=
  ((List.subperm_of_subset hl hsub).perm_of_length_le hlen).nodup_iff.mp hl

theorem gcMap_nodup {p : Params} (h : p.wf = true) : p.gcMap.toList.Nodup :=
  nodup_of_subset_of_length_le (l := GcReg.all) (by decide) (fun r _ => gcMem_of_wf h r) (by simp [GcReg.all])

theorem crtcMap_nodup {p : Params} (h : p.wf = true) : p.crtcMap.toList.Nodup :=
  nodup_of_subset_of_length_le (l := CrtcReg.all) (by decide) (fun r _ => crtcMem_of_wf h r) (by simp [CrtcReg.all])

theorem gcOffset_gcAt {p : Params} (h : p.wf = true) {a : Byte} (hc : claims p.variant .gc a = true) :
    p.gcOffset (p.gcAt a) = a := by
  obtain ⟨hlo, hhi⟩ := (claims_gc_iff _ a).mp hc
  have hlt : a.toNat - gcFirst < p.gcMap.toList.length := by simp [gcFirst]; omega
  have hidx : p.gcMap.toList.idxOf (p.gcAt a) = a.toNat - gcFirst := by
    rw [Params.gcAt, List.getD_eq_getElem _ _ hlt, (gcMap_nodup h).idxOf_getElem]
  apply BitVec.eq_of_toNat_eq
  rw [(gcOffset_toNat h _).1, hidx]
  simp only [gcFirst]
  omega

theorem crtcOffset_crtcAt {p : Params} (h : p.wf = true) {a : Byte} (hc : claims p.variant .crtc a = true) :
    p.crtcOffset (p.crtcAt a) = a := by
  obtain ⟨-, hlo, hhi⟩ := (claims_crtc_iff _ a).mp hc
  have hlt : a.toNat - crtcFirst < p.crtcMap.toList.length := by simp [crtcFirst]; omega
  have hidx : p.crtcMap.toList.idxOf (p.crtcAt a) = a.toNat - crtcFirst := by
    rw [Params.crtcAt, List.getD_eq_getElem _ _ hlt, (crtcMap_nodup h).idxOf_getElem]
  apply BitVec.eq_of_toNat_eq
  rw [(crtcOffset_toNat h _).1, hidx]
  simp only [crtcFirst]
  omega

/-! Which register operations an instance has (R43). -/

theorem wf_gcRead (p : Params) (r : GcReg) : r.readInstr.wf p = true := by cases r <;> rfl

theorem wf_gcWrite (p : Params) (r : GcReg) (d : Byte) : (r.writeInstr d).wf p = true := by cases r <;> rfl

theorem wf_crtcRead_iff (p : Params) (r : CrtcReg) : r.readInstr.wf p = true ↔ p.variant = .capable := by
  cases r <;> exact beq_iff_eq

theorem wf_crtcWrite_iff (p : Params) (r : CrtcReg) (d : Byte) : (r.writeInstr d).wf p = true ↔ p.variant = .capable := by
  cases r <;> exact beq_iff_eq

/-! A classified access (R42) is an operation of the instance, and its word names the access again. -/

theorem classifyRead_roundTrip {p : Params} (h : p.wf = true) (space : Space) (a : Byte) :
    (classifyRead p space a).wf p = true ∧ encode p (classifyRead p space a) = regWord 1 space a 0 := by
  cases space with
  | gc =>
    by_cases hc : claims p.variant .gc a = true
    · simp only [classifyRead, if_pos hc]
      exact ⟨wf_gcRead p _, by rw [encode_gcRead, gcOffset_gcAt h hc]⟩
    · simp only [classifyRead, if_neg hc]
      exact ⟨by simpa [Instr.wf] using hc, rfl⟩
  | crtc =>
    by_cases hc : claims p.variant .crtc a = true
    · obtain ⟨hv, -⟩ := (claims_crtc_iff _ a).mp hc
      simp only [classifyRead, if_pos hc]
      exact ⟨(wf_crtcRead_iff p _).mpr hv, by rw [encode_crtcRead, crtcOffset_crtcAt h hc]⟩
    · simp only [classifyRead, if_neg hc]
      exact ⟨by simpa [Instr.wf] using hc, rfl⟩

theorem classifyWrite_roundTrip {p : Params} (h : p.wf = true) (space : Space) (a d : Byte) :
    (classifyWrite p space a d).wf p = true ∧ encode p (classifyWrite p space a d) = regWord 2 space a d := by
  cases space with
  | gc =>
    by_cases hc : claims p.variant .gc a = true
    · simp only [classifyWrite, if_pos hc]
      exact ⟨wf_gcWrite p _ d, by rw [encode_gcWrite, gcOffset_gcAt h hc]⟩
    · simp only [classifyWrite, if_neg hc]
      exact ⟨by simpa [Instr.wf] using hc, rfl⟩
  | crtc =>
    by_cases hc : claims p.variant .crtc a = true
    · obtain ⟨hv, -⟩ := (claims_crtc_iff _ a).mp hc
      simp only [classifyWrite, if_pos hc]
      exact ⟨(wf_crtcWrite_iff p _ d).mpr hv, by rw [encode_crtcWrite, crtcOffset_crtcAt h hc]⟩
    · simp only [classifyWrite, if_neg hc]
      exact ⟨by simpa [Instr.wf] using hc, rfl⟩

/-! The two round trips. -/

/-- On legal parameters every window offset of the instance fits in the word (R39; log 18). -/
theorem offset_fits_word {p : Params} (h : p.wf = true) {o : Nat} (ho : o < 2 ^ p.offsetBits) : o < 2 ^ 20 :=
  ho.trans_le (Nat.pow_le_pow_right (by decide) (offsetBits_of_wf h))

/-- Settles O3: a register stands at its own offset, a delegated offset is unclaimed, and a window offset fits in the word. -/
theorem encodedOperationsDecodeToThemselves : Obligations.EncodedOperationsDecodeToThemselves := by
  intro p i hp hi
  rcases Machine.instr_cases i with ⟨r, rfl⟩ | ⟨r, d, rfl⟩ | ⟨r, rfl⟩ | ⟨r, d, rfl⟩ | ⟨a, rfl⟩ | ⟨a, d, rfl⟩ | ⟨a, rfl⟩ |
    ⟨a, d, rfl⟩ | ⟨o, rfl⟩ | ⟨o, d, rfl⟩ | rfl
  · rw [encode_gcRead]
    exact (decode_gcAccess hp r 0).1
  · rw [encode_gcWrite]
    exact (decode_gcAccess hp r d).2
  · rw [encode_crtcRead]
    exact (decode_crtcAccess hp ((wf_crtcRead_iff p r).mp hi) r 0).1
  · rw [encode_crtcWrite]
    exact (decode_crtcAccess hp ((wf_crtcWrite_iff p r d).mp hi) r d).2
  · have ha : claims p.variant .gc a = false := by simpa [Instr.wf] using hi
    exact (decode_readWord p .gc a 0).trans (by simp [classifyRead, ha])
  · have ha : claims p.variant .gc a = false := by simpa [Instr.wf] using hi
    exact (decode_writeWord p .gc a d).trans (by simp [classifyWrite, ha])
  · have ha : claims p.variant .crtc a = false := by simpa [Instr.wf] using hi
    exact (decode_readWord p .crtc a 0).trans (by simp [classifyRead, ha])
  · have ha : claims p.variant .crtc a = false := by simpa [Instr.wf] using hi
    exact (decode_writeWord p .crtc a d).trans (by simp [classifyWrite, ha])
  · have ho : o < 2 ^ p.offsetBits := by simpa [Instr.wf] using hi
    exact decode_memReadWord p 0 (offset_fits_word hp ho) ho
  · have ho : o < 2 ^ p.offsetBits := by simpa [Instr.wf] using hi
    exact decode_memWriteWord p d (offset_fits_word hp ho) ho
  · exact decode_zero p

/-- A word that decodes is the word of its operation, or a read's word with another byte in the ignored place (R39; D22). -/
theorem encode_of_decode {p : Params} {w : TransactionWord} {i : Instr} (hp : p.wf = true) (h : decode p w = .ok i) :
    i.wf p = true ∧
      (((kindField w = 1 ∨ kindField w = 3) ∧ (encode p i).toNat / 2 ^ 8 = w.toNat / 2 ^ 8) ∨ encode p i = w) := by
  rcases decode_cases h with ⟨hk, hr, rfl⟩ | ⟨hk, space, hs, rfl⟩ | ⟨hk, space, hs, rfl⟩ | ⟨hk, ho, rfl⟩ | ⟨hk, ho, rfl⟩
  · exact ⟨rfl, .inr (eq_zero_of_fields hk hr).symm⟩
  · obtain ⟨hwf, henc⟩ := classifyRead_roundTrip hp space (addrField w)
    refine ⟨hwf, .inl ⟨.inl hk, ?_⟩⟩
    rw [henc, regWord_above_data 1 space _ 0 (dataField w), ← eq_regWord_of_fields (kind := 1) hk hs]
  · obtain ⟨hwf, henc⟩ := classifyWrite_roundTrip hp space (addrField w) (dataField w)
    exact ⟨hwf, .inr (henc.trans (eq_regWord_of_fields (kind := 2) hk hs).symm)⟩
  · refine ⟨decide_eq_true ho, .inl ⟨.inr hk, ?_⟩⟩
    calc (memWord 3 (offsetField w) 0).toNat / 2 ^ 8
        = (memWord 3 (offsetField w) (dataField w)).toNat / 2 ^ 8 := memWord_above_data 3 _ _ _
      _ = w.toNat / 2 ^ 8 := by rw [← eq_memWord_of_fields (kind := 3) hk]
  · exact ⟨decide_eq_true ho, .inr (eq_memWord_of_fields (kind := 4) hk).symm⟩

/-- Settles O4: the word is the operation's own, or the operation is a read and the two differ in the ignored byte only. -/
theorem decodedWordsEncodeBack : Obligations.DecodedWordsEncodeBack := by
  intro p w i hp h
  rw [← kindField_eq]
  obtain ⟨hwf, ⟨hk, habove⟩ | hw⟩ := encode_of_decode hp h
  · exact ⟨hwf, habove, fun h1 h3 => absurd hk (by simp [h1, h3])⟩
  · exact ⟨hwf, by rw [hw], fun _ _ => hw⟩

/-! The words that decode. -/

/-- A word decodes exactly when its fields are those R39 gives one of the five kinds. -/
theorem decode_ok_exists_iff (p : Params) (w : TransactionWord) :
    (∃ i, decode p w = .ok i) ↔
      (kindField w = 0 ∧ resetField w = 0) ∨
      ((kindField w = 1 ∨ kindField w = 2) ∧ reservedField w = 0 ∧ spaceField w < 2) ∨
      ((kindField w = 3 ∨ kindField w = 4) ∧ offsetField w < 2 ^ p.offsetBits) := by
  rw [← parseSpace_ok_exists_iff]
  constructor
  · rintro ⟨i, h⟩
    rcases decode_cases h with ⟨hk, hr, -⟩ | ⟨hk, space, hs, -⟩ | ⟨hk, space, hs, -⟩ | ⟨hk, ho, -⟩ | ⟨hk, ho, -⟩
    · exact .inl ⟨hk, hr⟩
    · exact .inr (.inl ⟨.inl hk, space, hs⟩)
    · exact .inr (.inl ⟨.inr hk, space, hs⟩)
    · exact .inr (.inr ⟨.inl hk, ho⟩)
    · exact .inr (.inr ⟨.inr hk, ho⟩)
  · have h20 : offsetField w < 2 ^ 20 := (w.extractLsb' 8 20).isLt
    rintro (⟨hk, hr⟩ | ⟨hk | hk, space, hs⟩ | ⟨hk | hk, ho⟩)
    · rw [eq_zero_of_fields hk hr]
      exact ⟨_, decode_zero p⟩
    · rw [eq_regWord_of_fields (kind := 1) hk hs]
      exact ⟨_, decode_readWord p _ _ _⟩
    · rw [eq_regWord_of_fields (kind := 2) hk hs]
      exact ⟨_, decode_writeWord p _ _ _⟩
    · rw [eq_memWord_of_fields (kind := 3) hk]
      exact ⟨_, decode_memReadWord p _ h20 ho⟩
    · rw [eq_memWord_of_fields (kind := 4) hk]
      exact ⟨_, decode_memWriteWord p _ h20 ho⟩

theorem decode_error_exists_iff (p : Params) (w : TransactionWord) :
    (∃ e, decode p w = .error e) ↔ ¬ ∃ i, decode p w = .ok i := by
  cases decode p w <;> simp

/-- Settles O5: the refused words are the rest of those that decode, and a step gives the decoder's refusal. -/
theorem exactlyTheNonOperationsAreRefused : Obligations.ExactlyTheNonOperationsAreRefused := by
  intro p w
  constructor
  · rw [decode_error_exists_iff, decode_ok_exists_iff, kindField_eq, resetField_eq, reservedField_eq, spaceField_eq,
      offsetField_eq]
    generalize 2 ^ p.offsetBits = bound
    omega
  · rintro s rest e rfl hpending hd
    exact Machine.step_of_decode_error hpending hd

/-- Settles O7: an encoded register access parses whatever its operands, and exec has no outcome but a next state. -/
theorem noEncodingIsIllegalAndNoOperationTraps : Obligations.NoEncodingIsIllegalAndNoOperationTraps :=
  ⟨fun p space addr data => ⟨⟨_, decode_readWord p space addr data⟩, ⟨_, decode_writeWord p space addr data⟩⟩,
    Machine.exec_completes⟩

/-- Settles O2: each printed word is a register access at the register's default offset, an access of an unclaimed offset, a memory
access, or the zero word. -/
theorem specExampleWordsDecode : Obligations.SpecExampleWordsDecode := by
  have gc := decode_gcAccess params_default_wf
  have crtc := decode_crtcAccess params_default_wf rfl
  have mr := decode_memReadWord Params.default (offset := 0x10) 0 (by decide) (by decide)
  have mw := decode_memWriteWord Params.default (offset := 0x10) 0x55 (by decide) (by decide)
  exact ⟨(gc .status1 0x05).2, (gc .status1 0).1, (crtc .status2 0x85).2, mr, mw, decode_zero _, (gc .aoffa 0x2A).2,
    (crtc .rsvd30 0).1, decode_writeWord _ .gc 0x08 0x44⟩

end Sys2Proof
end

section
/-!
PROOFS. The lock gate (R50, R51, R53, R55, R56, R60): which bytes unlock, what a status write leaves of the other tier, and what the
operation right after it meets.
-/

namespace Sys2Proof.Machine

/-! The status operations of tier 1 (R55, R56). -/

/-- An operation that replaces the block and offers two notices completes inside the block. -/
theorem storesInside_of_setBlock_notify_notify {i : Instr} {s : State} {b : Block} {n m : Notice}
    (h : exec i s = .next (((s.setBlock b).notify n).notify m)) : StoresInside i s b [n, m] :=
  ⟨_, h, rfl, rfl, rfl, s.sameBytes_refl, ⟨rfl, rfl⟩, (s.setBlock b).offered_two n m⟩

/-- Settles O10: the write replaces GATE1 and offers its two notices. -/
theorem statusOneWriteDrivesGateOne : Obligations.StatusOneWriteDrivesGateOne :=
  fun s d => storesInside_of_setBlock_notify_notify (exec_status1Write s d)

/-- Settles O11: the read hands back the lock code of GATE1. -/
theorem statusOneReadReportsGateOne : Obligations.StatusOneReadReportsGateOne :=
  fun s => answersInside_of_answer (exec_status1Read s)

/-! The bytes that unlock (R51). -/

/-- The masked comparison reads the byte modulo 8. -/
theorem and_seven_eq_five_iff_mod (c : Byte) : c &&& 0x07 = 0x05 ↔ c.toNat % 8 = 5 := by
  have hmod : (c &&& 0x07).toNat = c.toNat % 8 := by
    rw [BitVec.toNat_and]
    exact Nat.and_two_pow_sub_one_eq_mod c.toNat 3
  rw [← BitVec.toNat_inj, hmod]
  rfl

theorem and_seven_eq_five_iff_bits (c : Byte) :
    c &&& 0x07 = 0x05 ↔ c.getLsbD 2 = true ∧ c.getLsbD 1 = false ∧ c.getLsbD 0 = true := by
  simp only [and_seven_eq_five_iff_mod, BitVec.getLsbD, Nat.testBit_eq_decide_div_mod_eq, decide_eq_true_iff,
    decide_eq_false_iff_not]
  omega

/-- The 32 bytes are one for each value of bits 7 to 3. -/
theorem and_seven_eq_five_iff_exists (c : Byte) : c &&& 0x07 = 0x05 ↔ ∃ k, k < 32 ∧ c.toNat = 8 * k + 5 := by
  rw [and_seven_eq_five_iff_mod]
  have hlt := c.isLt
  constructor
  · intro hmod
    exact ⟨c.toNat / 8, by omega, by omega⟩
  · rintro ⟨k, -, hk⟩
    omega

/-- Settles O15: each tier's gate becomes the masked comparison, which is the pattern of the three low bits and the residue 5. -/
theorem exactlyThirtyTwoBytesUnlock : Obligations.ExactlyThirtyTwoBytesUnlock := by
  intro s c
  have hbits := decide_eq_true_iff.trans (and_seven_eq_five_iff_bits c)
  have hexists := decide_eq_true_iff.trans (and_seven_eq_five_iff_exists c)
  exact ⟨⟨_, exec_status1Write s c, hbits, decide_eq_true_iff, hexists⟩,
    fun hv => ⟨_, exec_status2Write hv c, hbits, decide_eq_true_iff, hexists⟩⟩

/-! The code alone decides the gate (R50). -/

theorem gate1_of_status1Write {s t : State} {c : Byte} (h : exec (.rwStatus1 c) s = .next t) :
    t.block.gate1 = decide (c &&& 0x07 = 0x05) := by
  cases (exec_status1Write s c).symm.trans h
  rfl

theorem gate2_of_status2Write {s t : State} {c : Byte} (hv : s.params.variant = .capable)
    (h : exec (.rwStatus2 c) s = .next t) : t.block.gate2 = decide (c &&& 0x07 = 0x05) := by
  cases (exec_status2Write hv c).symm.trans h
  rfl

/-- Settles O16: both runs leave the comparison of the same code. -/
theorem gateDependsOnTheWrittenCodeAlone : Obligations.GateDependsOnTheWrittenCodeAlone := by
  refine fun s s' t t' c => ⟨fun h h' => ?_, fun hv hv' h h' => ?_⟩
  · exact ⟨(gate1_of_status1Write h).trans (gate1_of_status1Write h').symm, gate1_of_status1Write h⟩
  · exact ⟨(gate2_of_status2Write hv h).trans (gate2_of_status2Write hv' h').symm, gate2_of_status2Write hv h⟩

/-! The two gates (R60). -/

/-- The code by which a status register reports a gate is one that sets it. -/
theorem decide_lockCode_unlocks (g : Bool) : decide (lockCode g &&& 0x07 = 0x05) = g := by
  cases g <;> decide

theorem runAll_pair {i j : Instr} {s t u : State} (hi : exec i s = .next t) (hj : exec j t = .next u) :
    runAll [i, j] s = .next u := by
  simp only [runAll, hi, hj]

/-- Settles O17: a status write puts its own tier's fields into the block it finds and reads none of it, so the other tier's fields
pass through; the two lock codes of the wanted gates reach them in either order. -/
theorem theTwoGatesAreIndependent : Obligations.TheTwoGatesAreIndependent := by
  refine fun s hv => ⟨fun c g x => ?_, fun c g => ?_, fun g1 g2 => ?_⟩
  · exact ⟨_, exec_status1Write s c, rfl, rfl, exec_status1Write _ c⟩
  · exact ⟨_, exec_status2Write hv c, rfl, exec_status2Write (s := s.setBlock { s.block with gate1 := g }) hv c⟩
  · have h1 := decide_lockCode_unlocks g1
    have h2 := decide_lockCode_unlocks g2
    have hv1 : ∀ b n m, (((s.setBlock b).notify n).notify m).params.variant = .capable := fun _ _ _ => hv
    have h12 := runAll_pair (exec_status1Write s (lockCode g1)) (exec_status2Write (hv1 _ _ _) (lockCode g2))
    have h21 := runAll_pair (exec_status2Write hv (lockCode g2)) (exec_status1Write _ (lockCode g1))
    exact ⟨_, _, _, _, h12, h1, h2, h21, h1, h2⟩

/-! One operation in either view, as a run (R53, R66 to R69). -/

/-- An operation that completes and hands back the bytes `vs`, as a run of its own. -/
theorem RunReturns.single {i : Instr} {s t : State} {vs : List Byte} {b : Block} (h : exec i s = .next t)
    (hret : t.returned = s.returned ++ vs) (hb : t.block = b) : RunReturns [i] s vs b :=
  ⟨t, by simp only [runAll, h], hret, hb⟩

theorem runReturns_gcRead (s : State) {r : GcReg} (hr : r ≠ .status1) :
    RunReturns [r.readInstr] s [if s.block.gate1 then gcReadback s.params.aoffbMask s.block r else 0xFF] s.block := by
  cases hg : s.block.gate1
  · exact .single (exec_gcRead_locked hg hr) rfl rfl
  · exact .single (exec_gcRead_unlocked hg hr) rfl rfl

theorem runReturns_gcWrite (s : State) {r : GcReg} (hr : r ≠ .status1) (d : Byte) :
    RunReturns [r.writeInstr d] s [] (if s.block.gate1 then gcWritten s.block r d else s.block) := by
  cases hg : s.block.gate1
  · exact .single (exec_gcWrite_locked hg hr d) (List.append_nil _).symm rfl
  · exact .single (exec_gcWrite_unlocked hg hr d) (List.append_nil _).symm rfl

theorem runReturns_scratchRead {s : State} (hv : s.params.variant = .capable) :
    RunReturns [.rrScratch] s [if s.block.gate2 then s.block.scratch else 0xFF] s.block := by
  cases hg : s.block.gate2
  · exact .single (exec_crtcRead_locked (r := .scratch) hv hg (by decide)) rfl rfl
  · exact .single (exec_scratchRead_unlocked hv hg) rfl rfl

theorem runReturns_scratchWrite {s : State} (hv : s.params.variant = .capable) (d : Byte) :
    RunReturns [.rwScratch d] s [] { s.block with scratch := if s.block.gate2 then d else s.block.scratch } := by
  cases hg : s.block.gate2
  · exact .single (exec_crtcWrite_locked (r := .scratch) hv hg (by decide) d) (List.append_nil _).symm rfl
  · exact .single (exec_scratchWrite_unlocked hv hg d) (List.append_nil _).symm rfl

theorem runReturns_reservedRead {s : State} (hv : s.params.variant = .capable) {r : CrtcReg} (hr : r.reserved = true) :
    RunReturns [r.readInstr] s [0xFF] s.block :=
  .single (exec_reservedRead hv hr) rfl rfl

theorem runReturns_reservedWrite {s : State} (hv : s.params.variant = .capable) {r : CrtcReg} (hr : r.reserved = true) (d : Byte) :
    RunReturns [r.writeInstr d] s [] s.block :=
  .single (exec_reservedWrite hv hr d) (List.append_nil _).symm rfl

/-! The operation after a status write (R53). -/

/-- No handler behind the tier-1 view reads GATE1. -/
theorem gcReadback_setGate1 (mask : Byte) (b : Block) (g : Bool) {r : GcReg} (hr : r ≠ .status1) :
    gcReadback mask { b with gate1 := g } r = gcReadback mask b r := by
  cases r with
  | status1 => exact absurd rfl hr
  | aoffa | aoffb | memsize | vsel | crtclock | vctl => rfl

/-- No handler behind the tier-1 view reads or writes GATE1 (R61). -/
theorem gcWritten_setGate1 (b : Block) (g : Bool) {r : GcReg} (hr : r ≠ .status1) (d : Byte) :
    gcWritten { b with gate1 := g } r d = { gcWritten b r d with gate1 := g } := by
  cases r with
  | status1 => exact absurd rfl hr
  | aoffa | aoffb | memsize | vsel | crtclock | vctl => rfl

/-- A status write of tier 1 ahead of a run from the block it leaves (R55). -/
theorem RunReturns.cons_status1Write {s : State} (c : Byte) {is : List Instr} {vs : List Byte} {b : Block}
    (hrest : ∀ t : State, t.params = s.params → t.block = { s.block with gate1 := decide (c &&& 0x07 = 0x05) } →
      RunReturns is t vs b) : RunReturns (.rwStatus1 c :: is) s vs b :=
  .cons_silent (exec_status1Write s c) rfl (hrest _ rfl rfl)

/-- A status write of tier 2 ahead of a run from the block it leaves (R57). -/
theorem RunReturns.cons_status2Write {s : State} (hv : s.params.variant = .capable) (c : Byte) {is : List Instr} {vs : List Byte}
    {b : Block}
    (hrest : ∀ t : State, t.params.variant = .capable →
      t.block = { s.block with gate2 := decide (c &&& 0x07 = 0x05), t2sb := c &&& 0x70 } → RunReturns is t vs b) :
    RunReturns (.rwStatus2 c :: is) s vs b :=
  .cons_silent (exec_status2Write hv c) rfl (hrest _ hv rfl)

/-- Settles O19: the run is the status write, then one operation from the state it leaves, whose gate is the comparison. -/
theorem statusWriteSwitchesTheViewAtOnce : Obligations.StatusWriteSwitchesTheViewAtOnce := by
  refine fun s c d => ⟨fun r hr => ⟨.cons_status1Write c fun t hp hb => ?_, .cons_status1Write c fun t hp hb => ?_⟩,
    fun hv => ⟨.cons_status2Write hv c fun t ht hb => ?_, .cons_status2Write hv c fun t ht hb => ?_,
      fun r hr => ⟨.cons_status2Write hv c fun t ht hb => ?_, .cons_status2Write hv c fun t ht hb => ?_⟩⟩⟩
  · have hread := runReturns_gcRead t hr
    rw [hb, hp, gcReadback_setGate1 _ _ _ hr] at hread
    simpa using hread
  · have hwrite := runReturns_gcWrite t hr d
    rw [hb, gcWritten_setGate1 _ _ hr] at hwrite
    by_cases hc : c &&& 0x07 = 0x05
    · simpa only [hc, decide_true, if_true] using hwrite
    · simpa only [hc, decide_false, Bool.false_eq_true, if_false] using hwrite
  · simpa [hb] using runReturns_scratchRead ht
  · simpa [hb] using runReturns_scratchWrite ht d
  · exact hb ▸ runReturns_reservedRead ht hr
  · exact hb ▸ runReturns_reservedWrite ht hr d

end Sys2Proof.Machine
end

section
/-!
PROOFS. The baseline is never called for a claimed offset (R32, R72): one rule for each state operation that could make or move a call,
then one case for each way an operation can end.
-/

namespace Sys2Proof.Machine

/-! One rule for each state operation. -/

theorem State.OnlyUnclaimedCalls.answer {s : State} (h : s.OnlyUnclaimedCalls) (v : Byte) :
    (s.answer v).OnlyUnclaimedCalls := h

theorem State.OnlyUnclaimedCalls.notify {s : State} (h : s.OnlyUnclaimedCalls) (n : Notice) :
    (s.notify n).OnlyUnclaimedCalls := h

theorem State.OnlyUnclaimedCalls.setBlock {s : State} (h : s.OnlyUnclaimedCalls) (b : Block) :
    (s.setBlock b).OnlyUnclaimedCalls := h

theorem State.OnlyUnclaimedCalls.setMemByte {s : State} (h : s.OnlyUnclaimedCalls) (ea : Nat) (v : Byte) :
    (s.setMemByte ea v).OnlyUnclaimedCalls := h

theorem State.OnlyUnclaimedCalls.setBaseByte {s : State} (h : s.OnlyUnclaimedCalls) (space : Space) (addr v : Byte) :
    (s.setBaseByte space addr v).OnlyUnclaimedCalls := by
  cases space <;> exact h

/-- A call may be added if it names no claimed offset. -/
theorem State.OnlyUnclaimedCalls.called {s : State} (h : s.OnlyUnclaimedCalls) {c : BaselineCall}
    (hc : unclaimedCall s.params.variant c) : (s.called c).OnlyUnclaimedCalls :=
  List.forall_mem_append.mpr ⟨h, List.forall_mem_singleton.mpr hc⟩

/-! The shared operations built from them. -/

theorem State.OnlyUnclaimedCalls.delegatedRead {s : State} (h : s.OnlyUnclaimedCalls) {space : Space} {addr : Byte}
    (hc : claims s.params.variant space addr = false) : (delegatedRead space addr s).OnlyUnclaimedCalls :=
  (h.called (c := .regRead space addr) hc).answer _

theorem State.OnlyUnclaimedCalls.delegatedWrite {s : State} (h : s.OnlyUnclaimedCalls) {space : Space} {addr : Byte}
    (hc : claims s.params.variant space addr = false) (data : Byte) : (delegatedWrite space addr data s).OnlyUnclaimedCalls :=
  (h.setBaseByte space addr data).called (c := .regWrite space addr data) <| by rwa [State.setBaseByte_params]

theorem State.OnlyUnclaimedCalls.windowRead {s : State} (h : s.OnlyUnclaimedCalls) (off : Nat) :
    (windowRead off s).OnlyUnclaimedCalls :=
  (h.called (c := .memRead _) trivial).answer _

theorem State.OnlyUnclaimedCalls.windowWrite {s : State} (h : s.OnlyUnclaimedCalls) (off : Nat) (data : Byte) :
    (windowWrite off data s).OnlyUnclaimedCalls :=
  (h.setMemByte _ data).called (c := .memWrite _ data) trivial

/-! Every operation, and so every step. -/

/-- BASE leaves the whole CRTC space to the baseline (R32). -/
theorem claims_crtc_of_base {v : Variant} (hv : v = .base) (addr : Byte) : claims v .crtc addr = false := by
  rw [hv]
  rfl

/-- An operation of the instance calls the baseline for no claimed offset: the terms of a claimed register make no call where it is
claimed, and the offset of a delegated term is unclaimed by well-formedness (R45). -/
theorem Effect.keeps_onlyUnclaimedCalls {i : Instr} {s t : State} (e : Effect s i t) (hwf : i.wf s.params = true)
    (h : s.OnlyUnclaimedCalls) : t.OnlyUnclaimedCalls := by
  cases e with
  | gcReadLocked | crtcReadInert => exact (h.notify _).answer _
  | gcRead | status1Read | scratchRead | status2Read => exact h.answer _
  | gcWriteLocked | crtcWriteInert => exact h.notify _
  | gcWrite | scratchWrite => exact (h.setBlock _).notify _
  | status1Write | status2Write => exact ((h.setBlock _).notify _).notify _
  | crtcReadBase r hv => exact h.delegatedRead (claims_crtc_of_base hv _)
  | crtcWriteBase r d hv => exact h.delegatedWrite (claims_crtc_of_base hv _) d
  | gcBaseRead | crtcBaseRead => exact h.delegatedRead (by simpa [Instr.wf] using hwf)
  | gcBaseWrite | crtcBaseWrite => exact h.delegatedWrite (by simpa [Instr.wf] using hwf) _
  | mr => exact h.windowRead _
  | mw => exact h.windowWrite _ _
  | reset => exact h.setBlock _

/-- Settles O27: a step performs the operation of a word that decodes, and such an operation is one of the instance. -/
theorem claimedAccessesNeverReachTheBaseline : Obligations.ClaimedAccessesNeverReachTheBaseline := by
  refine ⟨fun s t hp h hstep => ?_, List.forall_mem_nil _⟩
  obtain ⟨w, rest, i, -, hdecode, hexec⟩ := step_next hstep
  obtain ⟨hwf, -⟩ := decodedWordsEncodeBack s.params w i hp hdecode
  have htaken : State.OnlyUnclaimedCalls { s with pending := rest } := h
  exact (exec_effect hexec).keeps_onlyUnclaimedCalls hwf htaken

end Sys2Proof.Machine
end

section
/-!
PROOFS. The two views of a guarded register (R64 to R69): the locked stub, the real handler, and what is read across a lock and an
unlock (R74).
-/

namespace Sys2Proof.Machine

/-! Completions inside the block, by what the operation leaves. -/

/-- An operation that offers a notice and hands a byte back completes inside the block. -/
theorem answersInside_of_notify_answer {i : Instr} {s : State} {n : Notice} {v : Byte}
    (h : exec i s = .next ((s.notify n).answer v)) : AnswersInside i s v [n] :=
  ⟨_, h, rfl, rfl, rfl, s.sameBytes_refl, ⟨rfl, rfl⟩, (s.offered_notify n).congr rfl rfl⟩

/-- An operation that only offers a notice leaves the block as it was. -/
theorem storesInside_of_notify {i : Instr} {s : State} {n : Notice} (h : exec i s = .next (s.notify n)) :
    StoresInside i s s.block [n] :=
  ⟨_, h, rfl, rfl, rfl, s.sameBytes_refl, ⟨rfl, rfl⟩, s.offered_notify n⟩

/-- An operation that replaces the block and offers a notice completes inside the block. -/
theorem storesInside_of_setBlock_notify {i : Instr} {s : State} {b : Block} {n : Notice}
    (h : exec i s = .next ((s.setBlock b).notify n)) : StoresInside i s b [n] :=
  ⟨_, h, rfl, rfl, rfl, s.sameBytes_refl, ⟨rfl, rfl⟩, (s.setBlock b).offered_notify n⟩

/-- Settles O20: the locked stub of each tier offers its notice and answers the sentinel. -/
theorem lockedReadsReturnTheSentinel : Obligations.LockedReadsReturnTheSentinel :=
  fun _ => ⟨fun hg _ hr => answersInside_of_notify_answer (exec_gcRead_locked hg hr),
    fun hv hg _ hr => answersInside_of_notify_answer (exec_crtcRead_locked hv hg hr)⟩

/-- Settles O21: the locked stub of each tier offers its notice and nothing else. -/
theorem lockedWritesAreDiscarded : Obligations.LockedWritesAreDiscarded :=
  fun _ d => ⟨fun hg _ hr => storesInside_of_notify (exec_gcWrite_locked hg hr d),
    fun hv hg _ hr => storesInside_of_notify (exec_crtcWrite_locked hv hg hr d)⟩

/-- Settles O22: a reserved offset answers the sentinel whatever GATE2 is. -/
theorem reservedReadsReturnTheSentinel : Obligations.ReservedReadsReturnTheSentinel :=
  fun _ _ hv hr => answersInside_of_notify_answer (exec_reservedRead hv hr)

/-- Settles O39: behind an open view each access is the real handler, whose byte and block are the table's. -/
theorem unlockedAccessesFollowTheOperandTable : Obligations.UnlockedAccessesFollowTheOperandTable := by
  refine fun s d => ⟨fun hg r hr => ⟨answersInside_gcRead hg hr, ?_⟩, fun hv hg => ⟨?_, ?_⟩⟩
  · exact storesInside_of_setBlock_notify (exec_gcWrite_unlocked hg hr d)
  · exact answersInside_of_answer (exec_scratchRead_unlocked hv hg)
  · exact storesInside_of_setBlock_notify (exec_scratchWrite_unlocked hv hg d)

/-! A run across a lock and an unlock (R74). -/

/-- A read inside the block ahead of a run from the block and the instance it leaves. -/
theorem AnswersInside.cons_run {i : Instr} {s : State} {v : Byte} {ns : List Notice} (h : AnswersInside i s v ns)
    {is : List Instr} {vs : List Byte} {b : Block}
    (hrest : ∀ t : State, t.params = s.params → t.block = s.block → RunReturns is t vs b) :
    RunReturns (i :: is) s (v :: vs) b := by
  obtain ⟨t, hexec, hret, hblock, -, -, ⟨hparams, -⟩, -⟩ := h
  exact .cons hexec hret (hrest t hparams hblock)

/-- A write inside the block ahead of a run from the block and the instance it leaves. -/
theorem StoresInside.cons_run {i : Instr} {s : State} {b' : Block} {ns : List Notice} (h : StoresInside i s b' ns)
    {is : List Instr} {vs : List Byte} {b : Block}
    (hrest : ∀ t : State, t.params = s.params → t.block = b' → RunReturns is t vs b) : RunReturns (i :: is) s vs b := by
  obtain ⟨t, hexec, hret, hblock, -, -, ⟨hparams, -⟩, -⟩ := h
  exact .cons_silent hexec hret (hrest t hparams hblock)

/-- A tier-2 read behind an open view: SCRATCH's byte, or the sentinel of a reserved offset (R66, R68). -/
theorem answersInside_crtcRead_unlocked {s : State} (hv : s.params.variant = .capable) (hg : s.block.gate2 = true) {r : CrtcReg}
    (hr : r ≠ .status2) :
    ∃ ns, AnswersInside r.readInstr s (if r = .scratch then s.block.scratch else 0xFF) ns := by
  rcases crtcReg_cases r with rfl | rfl | hres
  · exact absurd rfl hr
  · exact ⟨_, answersInside_of_answer (exec_scratchRead_unlocked hv hg)⟩
  · have hne : r ≠ .scratch := fun h => absurd (h ▸ hres) (by decide)
    rw [if_neg hne]
    exact ⟨_, answersInside_of_notify_answer (exec_reservedRead hv hres)⟩

/-- Settles O28: the locking code closes the view, so the read between is the stub's and the write is lost; the unlocking code opens it
on a block that differs from the first one in T2SB at most. -/
theorem relockingHidesAndUnlockingReveals : Obligations.RelockingHidesAndUnlockingReveals := by
  refine fun s lock unlock d hlock hunlock => ⟨fun hg r hr => ?_, fun hv hg r hr => ?_⟩
  · refine (answersInside_gcRead hg hr).cons_run fun s₁ hp₁ hb₁ => .cons_status1Write lock fun s₂ hp₂ hb₂ => ?_
    have hlocked : s₂.block.gate1 = false := by rw [hb₂, decide_eq_false hlock]
    refine ((lockedReadsReturnTheSentinel s₂).1 hlocked r hr).cons_run fun s₃ hp₃ hb₃ => ?_
    refine ((lockedWritesAreDiscarded s₃ d).1 (hb₃ ▸ hlocked) r hr).cons_run fun s₄ hp₄ hb₄ => ?_
    refine .cons_status1Write unlock fun s₅ hp₅ hb₅ => ?_
    have hparams : s₅.params = s.params := by rw [hp₅, hp₄, hp₃, hp₂, hp₁]
    have hblock : s₅.block = s.block := by rw [hb₅, hb₄, hb₃, hb₂, hb₁, decide_eq_true hunlock, ← hg]
    rw [← hparams, ← hblock]
    exact (answersInside_gcRead (hblock ▸ hg) hr).cons_run fun s₆ _ hb₆ => hb₆ ▸ .nil s₆
  · obtain ⟨_, hread⟩ := answersInside_crtcRead_unlocked hv hg hr
    refine hread.cons_run fun s₁ hp₁ hb₁ => .cons_status2Write (hp₁ ▸ hv) lock fun s₂ hv₂ hb₂ => ?_
    have hlocked : s₂.block.gate2 = false := by rw [hb₂, decide_eq_false hlock]
    refine ((lockedReadsReturnTheSentinel s₂).2 hv₂ hlocked r hr).cons_run fun s₃ hp₃ hb₃ => ?_
    refine ((lockedWritesAreDiscarded s₃ d).2 (hp₃ ▸ hv₂) (hb₃ ▸ hlocked) r hr).cons_run fun s₄ hp₄ hb₄ => ?_
    refine .cons_status2Write (hp₄ ▸ hp₃ ▸ hv₂) unlock fun s₅ hv₅ hb₅ => ?_
    have hblock : s₅.block = { s.block with t2sb := unlock &&& 0x70 } := by
      rw [hb₅, hb₄, hb₃, hb₂, hb₁, decide_eq_true hunlock, ← hg]
    obtain ⟨_, hreread⟩ := answersInside_crtcRead_unlocked hv₅ (by rw [hblock, hg]) hr
    rw [hblock] at hreread
    exact hreread.cons_run fun s₆ _ hb₆ => hblock ▸ hb₆ ▸ .nil s₆

end Sys2Proof.Machine
end

section
/-!
PROOFS. The sink decides nothing (R73): performing an operation under another trace leaves the same state under another trace. A write that
is discarded leaves only a notice, so no later operation can tell that it was made (R75).
-/

namespace Sys2Proof.Machine

/-- The state under another trace of the sink. -/
def State.withSink (s : State) (ns : List Notice) (k : Nat) : State := { s with notices := ns, offered := k }

/-- Each effect reads neither the trace nor the counter but to extend them. -/
theorem Effect.withSink {i : Instr} {s t : State} (e : Effect s i t) (ns : List Notice) (k : Nat) :
    ∃ ns' k', exec i (s.withSink ns k) = .next (t.withSink ns' k') := by
  cases e with
  | gcReadLocked r hr h => exact ⟨_, _, exec_gcRead_locked (s := s.withSink ns k) h hr⟩
  | gcRead r hr h => exact ⟨_, _, exec_gcRead_unlocked (s := s.withSink ns k) h hr⟩
  | gcWriteLocked r d hr h => exact ⟨_, _, exec_gcWrite_locked (s := s.withSink ns k) h hr d⟩
  | gcWrite r d hr h => exact ⟨_, _, exec_gcWrite_unlocked (s := s.withSink ns k) h hr d⟩
  | status1Read => exact ⟨_, _, exec_status1Read (s.withSink ns k)⟩
  | status1Write d => exact ⟨_, _, exec_status1Write (s.withSink ns k) d⟩
  | crtcReadInert r hr hv h =>
    rcases h with hlocked | hres
    · exact ⟨_, _, exec_crtcRead_locked (s := s.withSink ns k) hv hlocked hr⟩
    · exact ⟨_, _, exec_reservedRead (s := s.withSink ns k) hv hres⟩
  | crtcWriteInert r d hr hv h =>
    rcases h with hlocked | hres
    · exact ⟨_, _, exec_crtcWrite_locked (s := s.withSink ns k) hv hlocked hr d⟩
    · exact ⟨_, _, exec_reservedWrite (s := s.withSink ns k) hv hres d⟩
  | scratchRead hv h => exact ⟨_, _, exec_scratchRead_unlocked (s := s.withSink ns k) hv h⟩
  | scratchWrite d hv h => exact ⟨_, _, exec_scratchWrite_unlocked (s := s.withSink ns k) hv h d⟩
  | status2Read hv => exact ⟨_, _, exec_status2Read (s := s.withSink ns k) hv⟩
  | status2Write d hv => exact ⟨_, _, exec_status2Write (s := s.withSink ns k) hv d⟩
  | crtcReadBase r hv => exact ⟨_, _, exec_crtcRead_base (s := s.withSink ns k) hv r⟩
  | crtcWriteBase r d hv => exact ⟨_, _, exec_crtcWrite_base (s := s.withSink ns k) hv r d⟩
  | gcBaseRead | gcBaseWrite | crtcBaseRead | crtcBaseWrite | mr | mw | reset => exact ⟨_, _, rfl⟩

/-- Every list of operations completes (R9, R46). -/
theorem runAll_completes (is : List Instr) (s : State) : ∃ t, runAll is s = .next t := by
  induction is generalizing s with
  | nil => exact ⟨s, rfl⟩
  | cons i is ih =>
    obtain ⟨u, hu⟩ := exec_completes i s
    simpa only [runAll, hu] using ih u

/-- A list of operations under another trace of the sink leaves the same state under another trace. -/
theorem runAll_withSink {is : List Instr} {s t : State} (h : runAll is s = .next t) (ns : List Notice) (k : Nat) :
    ∃ ns' k', runAll is (s.withSink ns k) = .next (t.withSink ns' k') := by
  induction is generalizing s ns k with
  | nil =>
    cases h
    exact ⟨ns, k, rfl⟩
  | cons i is ih =>
    obtain ⟨u, hu⟩ := exec_completes i s
    obtain ⟨ns', k', hu'⟩ := (exec_effect hu).withSink ns k
    simp only [runAll, hu] at h
    simpa only [runAll, hu'] using ih h ns' k'

/-- An operation that only offers a notice makes no difference to what comes after it. -/
theorem runAll_after_notify {i : Instr} {s : State} {n : Notice} (h : exec i s = .next (s.notify n)) (is : List Instr) :
    ∃ t u, runAll (i :: is) s = .next t ∧ runAll is s = .next u ∧
      t.returned = u.returned ∧ t.block = u.block ∧ t.calls = u.calls ∧ t.SameBytes u := by
  obtain ⟨u, hu⟩ := runAll_completes is s
  obtain ⟨ns, k, ht⟩ := runAll_withSink hu (s.notify n).notices (s.notify n).offered
  have hrun : runAll (i :: is) s = .next (u.withSink ns k) := by
    simp only [runAll, h]
    exact ht
  exact ⟨u.withSink ns k, u, hrun, hu, rfl, rfl, rfl, u.sameBytes_refl⟩

/-- Settles O29: a write at a locked offset leaves only its notice, whatever runs after it. -/
theorem lockedWritesAreNeverRevealed : Obligations.LockedWritesAreNeverRevealed :=
  fun _ _ d _ _ _ _ => ⟨fun hg _ _ hr => runAll_after_notify (exec_gcWrite_locked hg hr d) _,
    fun hv hg _ _ hr => runAll_after_notify (exec_crtcWrite_locked hv hg hr d) _⟩

end Sys2Proof.Machine
end

section
/-!
PROOFS. The tier-1 registers behind the open view (R77, R78, R81, R84, R86, R88): what a write leaves and where the memory access after it
is, then the bits of BANK, MEMSIZE and VCTL.
-/

namespace Sys2Proof.Machine

/-! A tier-1 write, unlocked. -/

/-- An unlocked tier-1 write completes inside the block and leaves the block of the table (R41, R67). -/
theorem storesInside_gcWrite {s : State} (hg : s.block.gate1 = true) {r : GcReg} (hr : r ≠ .status1) (d : Byte) :
    StoresInside (r.writeInstr d) s (gcWritten s.block r d) [.regWrite (.gc r) d] :=
  storesInside_of_setBlock_notify (exec_gcWrite_unlocked hg hr d)

/-- The memory access after an unlocked tier-1 write is translated with what the write left (R78, R88). -/
theorem nextMemoryAccessAt_gcWrite {s : State} (hg : s.block.gate1 = true) {r : GcReg} (hr : r ≠ .status1) (d : Byte) (off : Nat) :
    NextMemoryAccessAt (r.writeInstr d) s off ((gcWritten s.block r d).translate off) :=
  nextMemoryAccessAt_of (exec_gcWrite_unlocked hg hr d) rfl rfl off

/-! The bits that a register keeps or forces. -/

/-- BANK widened to a byte stays below 0x80 (R77). -/
theorem setWidth_bank_toNat_lt (bank : BitVec 7) : (bank.setWidth 8).toNat < 0x80 := by
  rw [BitVec.toNat_setWidth_of_le (by decide)]
  exact bank.isLt

/-- Through BANK and back, a byte loses bit 7 only (R77, R78). -/
theorem setWidth_bank_readback (d : Byte) : (d.setWidth 7).setWidth 8 = d &&& 0x7F := by
  apply BitVec.eq_of_toNat_eq
  rw [BitVec.toNat_and, BitVec.toNat_setWidth_of_le (by decide), BitVec.toNat_setWidth]
  exact (Nat.and_two_pow_sub_one_eq_mod d.toNat 7).symm

/-- A bit forced set is set, whatever is stored (R81). -/
theorem or_and_mask_eq_mask {n : Nat} (mask x : BitVec n) : (mask ||| x) &&& mask = mask := by
  ext k hk
  simpa using Or.inl

/-- `translate` in terms of the bytes stored (R91, R92). -/
theorem Block.translate_eq (b : Block) (off : Nat) :
    b.translate off = if b.vctl.getLsbD 0 then off + b.bank.toNat * 4096 else off := rfl

/-- WINEN is set by the odd bytes (R88). -/
theorem winEn_iff_odd (b : Block) : b.winEn = true ↔ b.vctl.toNat % 2 = 1 := by
  rw [Block.winEn, BitVec.getLsbD, Nat.testBit_zero, decide_eq_true_iff]

/-! The obligations. -/

/-- Settles O31: the readback of AOFFA is BANK widened, and seven bits reach neither 0x80 nor bit 7. -/
theorem aoffaReadReturnsTheBank : Obligations.AoffaReadReturnsTheBank :=
  fun s hg => ⟨answersInside_gcRead hg (r := .aoffa) (by decide), setWidth_bank_toNat_lt s.block.bank, by simp⟩

/-- Settles O32: the block written has the new BANK, which the read back widens and the next memory access is translated with. -/
theorem aoffaWriteSelectsTheBank : Obligations.AoffaWriteSelectsTheBank := by
  intro s d off hg
  have haoffa : GcReg.aoffa ≠ .status1 := by decide
  refine ⟨storesInside_gcWrite hg haoffa d, ?_, ?_, nextMemoryAccessAt_gcWrite hg haoffa d off⟩
  · rw [← setWidth_bank_readback]
    exact runReturns_gcWrite_gcRead hg haoffa d
  · rw [Block.translate_eq, BitVec.toNat_setWidth]

/-- Settles O34: the readback of MEMSIZE is the stored byte's low six bits under the forced two. -/
theorem memsizeReadForcesTheTopBits : Obligations.MemsizeReadForcesTheTopBits :=
  fun _ hg => ⟨answersInside_gcRead hg (r := .memsize) (by decide), or_and_mask_eq_mask 0xC0 _⟩

/-- Settles O37: each write leaves the block of the table, and the block of RW.VCTL's has the window its low bit says. -/
theorem plainRegistersStoreTheWholeByte : Obligations.PlainRegistersStoreTheWholeByte := by
  intro s d off hg
  have hvctl : GcReg.vctl ≠ .status1 := by decide
  exact ⟨storesInside_gcWrite hg (r := .vsel) (by decide) d, storesInside_gcWrite hg (r := .crtclock) (by decide) d,
    storesInside_gcWrite hg hvctl d, winEn_iff_odd _, Block.translate_eq _ off, nextMemoryAccessAt_gcWrite hg hvctl d off⟩

end Sys2Proof.Machine
end

section
/-!
PROOFS. The memory window (R91 to R103): the translation as a function of BANK and WINEN, what MR and MW do at the address it gives, and
which operations change the two.
-/

namespace Sys2Proof.Machine

/-! The translation (R91, R92). -/

theorem Block.translate_of_disabled {b : Block} (h : b.vctl.getLsbD 0 = false) (off : Nat) : b.translate off = off := by
  rw [Block.translate_eq, h, if_neg Bool.false_ne_true]

theorem Block.translate_of_enabled {b : Block} (h : b.vctl.getLsbD 0 = true) (off : Nat) :
    b.translate off = off + b.bank.toNat * 4096 := by
  rw [Block.translate_eq, if_pos h]

/-- BANK and WINEN are all the translation reads (R97, R102). -/
theorem Block.translate_congr {b b' : Block} (hbank : b.bank = b'.bank) (hwin : b.vctl.getLsbD 0 = b'.vctl.getLsbD 0) (off : Nat) :
    b.translate off = b'.translate off := by
  rw [Block.translate_eq, Block.translate_eq, hbank, hwin]

/-- A bank at bits 18 to 12 is that many granules of 4096 bytes (R92). -/
theorem toNat_bank_append_zero (bank : BitVec 7) : (bank ++ (0 : BitVec 12)).toNat = bank.toNat * 4096 := by
  rw [BitVec.toNat_append, Nat.shiftLeft_eq]
  exact Nat.or_zero _

/-- The window adds the greatest bank at most (R93). -/
theorem Block.translate_le (b : Block) (off : Nat) : b.translate off ≤ off + 127 * 4096 := by
  have hbank := b.bank.isLt
  cases h : b.vctl.getLsbD 0 with
  | false => rw [b.translate_of_disabled h]; omega
  | true => rw [b.translate_of_enabled h]; omega

/-- One granule of the offset is one bank (R99). -/
theorem Block.translate_add_granule {b : Block} (h : b.vctl.getLsbD 0 = true) (hb : b.bank.toNat < 127) (off : Nat) :
    b.translate (off + 4096) = Block.translate { b with bank := b.bank + 1 } off := by
  have hnext : (b.bank + 1).toNat = b.bank.toNat + 1 := BitVec.toNat_add_of_lt (show b.bank.toNat + 1 < 2 ^ 7 by omega)
  rw [Block.translate_of_enabled h, Block.translate_of_enabled (b := { b with bank := b.bank + 1 }) h, hnext]
  omega

/-- A tier-1 write of a register that is neither AOFFA nor VCTL moves no address (R97, R102). -/
theorem Block.translate_gcWritten (b : Block) {r : GcReg} (hbank : r ≠ .aoffa) (hvctl : r ≠ .vctl) (d : Byte) (off : Nat) :
    (gcWritten b r d).translate off = b.translate off := by
  cases r with
  | aoffa => exact absurd rfl hbank
  | vctl => exact absurd rfl hvctl
  | aoffb | memsize | vsel | crtclock | status1 => rfl

/-- The memory access after an unlocked write of such a register is where it would have been before (R97, R102). -/
theorem nextMemoryAccessAt_gcWrite_unmoved {s : State} (hg : s.block.gate1 = true) {r : GcReg} (hr : r ≠ .status1)
    (hbank : r ≠ .aoffa) (hvctl : r ≠ .vctl) (d : Byte) (off : Nat) :
    NextMemoryAccessAt (r.writeInstr d) s off (s.block.translate off) := by
  rw [← s.block.translate_gcWritten hbank hvctl d]
  exact nextMemoryAccessAt_gcWrite hg hr d off

/-- RESET disables the window (R25). -/
theorem blockAfterReset_winEn : blockAfterReset.winEn = false := by decide

/-! MR and MW (R95, R96). -/

theorem exec_mr (off : Nat) (s : State) : exec (.mr off) s = .next (windowRead off s) := rfl

theorem exec_mw (off : Nat) (d : Byte) (s : State) : exec (.mw off d) s = .next (windowWrite off d s) := rfl

@[simp] theorem windowRead_calls (off : Nat) (s : State) :
    (windowRead off s).calls = s.calls ++ [.memRead (s.block.translate off)] := rfl

@[simp] theorem windowWrite_calls (off : Nat) (d : Byte) (s : State) :
    (windowWrite off d s).calls = s.calls ++ [.memWrite (s.block.translate off) d] := rfl

/-- MR is a read of the baseline at the translated offset. -/
theorem answersFromBaseline_mr (s : State) (off : Nat) :
    AnswersFromBaseline (.mr off) s (.memRead (s.block.translate off)) (s.memReadValue (s.block.translate off)) :=
  ⟨_, exec_mr off s, rfl, rfl, rfl, s.sameBytes_refl, ⟨rfl, rfl⟩, State.offered_nil rfl rfl⟩

/-- MW hands its byte to the baseline at the translated offset, where a canonical store keeps it. -/
theorem handsMemory_mw (s : State) (off : Nat) (d : Byte) : HandsMemory (.mw off d) s (s.block.translate off) d := by
  refine ⟨_, exec_mw off d s, rfl, rfl, rfl, fun hinv => ?_, fun a ha => ?_, fun _ _ => rfl, ⟨rfl, rfl⟩, State.offered_nil rfl rfl⟩
  · obtain ⟨-, -, -, hm, -⟩ := hinv
    exact s.memByte_setMemByte_same hm _ d
  · exact s.memByte_setMemByte_other d ha

/-- MR on the other variant leaves what it leaves, on that variant (R103). -/
theorem windowRead_variant (off : Nat) (s : State) (v : Variant) :
    windowRead off { s with params := { s.params with variant := v } } =
      { windowRead off s with params := { (windowRead off s).params with variant := v } } := rfl

/-- MW on the other variant leaves what it leaves, on that variant (R103). -/
theorem windowWrite_variant (off : Nat) (d : Byte) (s : State) (v : Variant) :
    windowWrite off d { s with params := { s.params with variant := v } } =
      { windowWrite off d s with params := { (windowWrite off d s).params with variant := v } } := rfl

/-! The writers of the window's configuration (R101). -/

/-- Two unlocked tier-1 writes leave the one written over the other. -/
theorem runReturns_gcWrite_gcWrite {s : State} (hg : s.block.gate1 = true) {r r' : GcReg} (hr : r ≠ .status1) (hr' : r' ≠ .status1)
    (d d' : Byte) :
    RunReturns [r.writeInstr d, r'.writeInstr d'] s [] (gcWritten (gcWritten s.block r d) r' d') :=
  (storesInside_gcWrite hg hr d).cons_run fun t _ hb => by
    have hg' : t.block.gate1 = true := by rw [hb, gcWritten_gate1 _ hr, hg]
    rw [← hb]
    exact (storesInside_gcWrite hg' hr' d').cons_run fun u _ hb' => hb' ▸ .nil u

/-- BANK changes by RESET and the unlocked RW.AOFFA only. -/
theorem writer_of_bank_ne {i : Instr} {s t : State} (h : exec i s = .next t) (hne : t.block.bank ≠ s.block.bank) :
    i = .reset ∨ (s.block.gate1 = true ∧ ∃ d, i = .rwAoffa d) := by
  by_cases hi : i = .reset
  · exact .inl hi
  · obtain ⟨-, -, -, hbank, -⟩ := eachFieldHasItsOwnWriterAndReset i s t h hi
    exact .inr (hbank hne)

/-- VCTL changes by RESET and the unlocked RW.VCTL only. -/
theorem writer_of_vctl_ne {i : Instr} {s t : State} (h : exec i s = .next t) (hne : t.block.vctl ≠ s.block.vctl) :
    i = .reset ∨ (s.block.gate1 = true ∧ ∃ d, i = .rwVctl d) := by
  by_cases hi : i = .reset
  · exact .inl hi
  · obtain ⟨-, -, -, -, -, -, -, -, hvctl, -⟩ := eachFieldHasItsOwnWriterAndReset i s t h hi
    exact .inr (hvctl hne)

/-! The obligations. -/

/-- Settles O47: the offset and the greatest bank are each below 2^max(n, 19), and the bound of the sum at 16 bits is reached by the
last offset under bank 127. -/
theorem effectiveAddressFitsInItsBits : Obligations.EffectiveAddressFitsInItsBits := by
  refine ⟨fun b n off hoff => ?_, fun b off hoff => ?_,
    { blockAfterReset with bank := 0x7F, vctl := 0x01 }, 0xFFFF, by decide, by decide⟩
  · have hoffset : 2 ^ n ≤ 2 ^ max n 19 := Nat.pow_le_pow_right Nat.two_pos (Nat.le_max_left n 19)
    have hbank : 2 ^ 19 ≤ 2 ^ max n 19 := Nat.pow_le_pow_right Nat.two_pos (Nat.le_max_right n 19)
    have hle := b.translate_le off
    rw [Nat.pow_succ]
    omega
  · have hle := b.translate_le off
    omega

/-- Settles O48: the two writes are handed to the baseline at the same address. -/
theorem adjacentBanksOverlap : Obligations.AdjacentBanksOverlap := by
  intro s off d hwin hbank
  refine ⟨_, _, exec_mw _ _ _, exec_mw _ _ _, ?_⟩
  rw [windowWrite_calls, windowWrite_calls, Block.translate_add_granule hwin hbank, State.setBlock_calls, State.setBlock_block]

/-- Settles O49: the one address is the offset translated, which BANK and WINEN decide. -/
theorem onlyBankAndWindowEnableSteerMemory : Obligations.OnlyBankAndWindowEnableSteerMemory := by
  intro s s' off d hbank hwin
  have hea : s'.block.translate off = s.block.translate off := Block.translate_congr hbank.symm hwin.symm off
  refine ⟨s.block.translate off, _, _, _, _, exec_mr off s, windowRead_calls off s, exec_mr off s', ?_,
    exec_mw off d s, windowWrite_calls off d s, exec_mw off d s', ?_⟩
  · rw [windowRead_calls, hea]
  · rw [windowWrite_calls, hea]

/-- Settles O50: O18 names the writers of BANK and VCTL, RESET clears both, and the two writes reach different fields. -/
theorem windowChangesByThreeOperationsOnly : Obligations.WindowChangesByThreeOperationsOnly := by
  refine ⟨fun i s t h => ⟨writer_of_bank_ne h, fun hne => ?_⟩, fun s => ?_, fun s b v => ?_, fun s b v hg => ⟨?_, ?_⟩⟩
  · exact writer_of_vctl_ne h (mt (congrArg (·.getLsbD 0)) hne)
  · exact ⟨s.setBlock blockAfterReset, rfl, rfl, blockAfterReset_winEn, Block.translate_of_disabled blockAfterReset_winEn⟩
  · obtain ⟨t, ht⟩ := exec_completes (.rwAoffa b) s
    obtain ⟨u, hu⟩ := exec_completes (.rwVctl v) s
    exact ⟨t, u, ht, by_contra fun hne => by simpa using writer_of_vctl_ne ht hne,
      hu, by_contra fun hne => by simpa using writer_of_bank_ne hu hne⟩
  · exact runReturns_gcWrite_gcWrite hg (r := .aoffa) (r' := .vctl) (by decide) (by decide) b v
  · exact runReturns_gcWrite_gcWrite hg (r := .vctl) (r' := .aoffa) (by decide) (by decide) v b

/-- Settles O33: AOFFB is stored and read back by the table, and is none of what the translation reads. -/
theorem aoffbIsStoredReadBackAndSteersNothing : Obligations.AoffbIsStoredReadBackAndSteersNothing := by
  intro s d off hg
  have haoffb : GcReg.aoffb ≠ .status1 := by decide
  exact ⟨storesInside_gcWrite hg haoffb d, answersInside_gcRead hg haoffb,
    nextMemoryAccessAt_gcWrite_unmoved hg haoffb (by decide) (by decide) d off⟩

/-- Settles O35: MEMSIZE is stored and read back by the table, and is none of what the translation reads. -/
theorem memsizeWriteStoresTheWholeByte : Obligations.MemsizeWriteStoresTheWholeByte := by
  intro s d off hg
  have hmemsize : GcReg.memsize ≠ .status1 := by decide
  exact ⟨storesInside_gcWrite hg hmemsize d, runReturns_gcWrite_gcRead hg hmemsize d,
    nextMemoryAccessAt_gcWrite_unmoved hg hmemsize (by decide) (by decide) d off⟩

/-- Settles O42: the address of both accesses is the offset translated, and that is the offset. -/
theorem disabledWindowPassesTheOffsetThrough : Obligations.DisabledWindowPassesTheOffsetThrough := by
  intro s off d hwin
  have hea := Block.translate_of_disabled hwin off
  have hread := answersFromBaseline_mr s off
  have hwrite := handsMemory_mw s off d
  rw [hea] at hread hwrite
  exact ⟨hea, hread, hwrite⟩

/-- Settles O43: the address of both accesses is the offset translated, and that adds the bank. -/
theorem enabledWindowAddsTheBank : Obligations.EnabledWindowAddsTheBank := by
  intro s off d hwin
  have hea := Block.translate_of_enabled hwin off
  have hread := answersFromBaseline_mr s off
  have hwrite := handsMemory_mw s off d
  rw [hea] at hread hwrite
  exact ⟨hea, by rw [hea, toNat_bank_append_zero], hread, hwrite⟩

/-- Settles O44: MR is at the offset translated, whatever the gates. -/
theorem memoryReadGoesThroughTheWindow : Obligations.MemoryReadGoesThroughTheWindow := by
  intro s off
  rw [← Block.translate_eq]
  exact answersFromBaseline_mr s off

/-- Settles O45: MW is at the offset translated, whatever the gates. -/
theorem memoryWriteGoesThroughTheWindow : Obligations.MemoryWriteGoesThroughTheWindow := by
  intro s off d
  rw [← Block.translate_eq]
  exact handsMemory_mw s off d

/-- Settles O46: the one address is the offset translated, and the translation reads the block only. -/
theorem oneTranslationServesReadsAndWrites : Obligations.OneTranslationServesReadsAndWrites :=
  fun s off d _ => ⟨s.block.translate off, _, _, _, _, exec_mr off s, windowRead_calls off s, exec_mw off d s, windowWrite_calls off d s,
    exec_mr off _, windowRead_calls off _, exec_mw off d _, windowWrite_calls off d _⟩

/-- Settles O51: both operations carry the other variant along. -/
theorem memoryOperationsIgnoreTheVariant : Obligations.MemoryOperationsIgnoreTheVariant :=
  fun s v off d => ⟨_, _, exec_mr off s, congrArg Host.Outcome.next (windowRead_variant off s v),
    exec_mw off d s, congrArg Host.Outcome.next (windowWrite_variant off d s v)⟩

end Sys2Proof.Machine
end

section
/-!
PROOFS. The offsets the block leaves to the baseline (R32, R70, R107): the words that decode to a delegated access, and what a delegated
access does.
-/

namespace Sys2Proof

/-! Unclaimed offsets (R32). -/

theorem claims_gc_eq_false {v : Variant} {a : Byte} (h : ¬(0x09 ≤ a.toNat ∧ a.toNat ≤ 0x0F)) : claims v .gc a = false :=
  Bool.eq_false_iff.mpr (mt (claims_gc_iff v a).mp h)

theorem claims_crtc_eq_false {v : Variant} {a : Byte} (h : v = .base ∨ ¬(0x29 ≤ a.toNat ∧ a.toNat ≤ 0x3F)) :
    claims v .crtc a = false := by
  refine Bool.eq_false_iff.mpr fun hclaims => ?_
  obtain ⟨hv, hrange⟩ := (claims_crtc_iff v a).mp hclaims
  rcases h with hbase | hout
  · exact absurd (hv.symm.trans hbase) (by decide)
  · exact hout hrange

/-! The words of unclaimed offsets decode to delegated accesses (R42, case 7). -/

theorem decode_gcRead_unclaimed {p : Params} {a : Byte} (h : claims p.variant .gc a = false) (d : Byte) :
    decode p (regWord 1 .gc a d) = .ok (.rrGcBase a) :=
  (decode_readWord p .gc a d).trans (by simp [classifyRead, h])

theorem decode_crtcRead_unclaimed {p : Params} {a : Byte} (h : claims p.variant .crtc a = false) (d : Byte) :
    decode p (regWord 1 .crtc a d) = .ok (.rrCrtcBase a) :=
  (decode_readWord p .crtc a d).trans (by simp [classifyRead, h])

theorem decode_crtcWrite_unclaimed {p : Params} {a : Byte} (h : claims p.variant .crtc a = false) (d : Byte) :
    decode p (regWord 2 .crtc a d) = .ok (.rwCrtcBase a d) :=
  (decode_writeWord p .crtc a d).trans (by simp [classifyWrite, h])

end Sys2Proof

namespace Sys2Proof.Machine

/-! What a delegated access does (R70, R71). -/

/-- An operation that ends as a delegated read completes as a read through the baseline. -/
theorem answersFromBaseline_of_delegatedRead {i : Instr} {s : State} {space : Space} {a : Byte}
    (h : exec i s = .next (delegatedRead space a s)) :
    AnswersFromBaseline i s (.regRead space a) (s.baseReadValue space a) :=
  ⟨_, h, rfl, rfl, rfl, s.sameBytes_refl, ⟨rfl, rfl⟩, State.offered_nil rfl rfl⟩

/-- An operation that ends as a delegated write hands its byte to the baseline, where canonical stores keep it. -/
theorem handsRegister_of_delegatedWrite {i : Instr} {s : State} {space : Space} {a d : Byte}
    (h : exec i s = .next (delegatedWrite space a d s)) : HandsRegister i s space a d := by
  refine ⟨_, h, State.setBaseByte_returned .., State.setBaseByte_block .., ?_, fun hinv => ?_, fun space' a' hne => ?_,
    s.memByte_setBaseByte space a d, ⟨State.setBaseByte_params .., State.setBaseByte_pending ..⟩,
    State.offered_nil (State.setBaseByte_notices ..) (State.setBaseByte_offered ..)⟩
  · exact congrArg (· ++ _) (State.setBaseByte_calls ..)
  · obtain ⟨-, -, -, -, hg, hc, -⟩ := hinv
    exact s.baseByte_setBaseByte_same hg hc space a d
  · exact s.baseByte_setBaseByte_other space space' d hne

/-- Settles O24: outside the claimed offsets the decoder gives the delegated read, and that is one read through the baseline. -/
theorem unclaimedReadsAreDelegated : Obligations.UnclaimedReadsAreDelegated :=
  ⟨fun _ _ d h => decode_gcRead_unclaimed (claims_gc_eq_false h) d,
    fun _ _ d h => decode_crtcRead_unclaimed (claims_crtc_eq_false h) d,
    fun _ _ => ⟨answersFromBaseline_of_delegatedRead rfl, answersFromBaseline_of_delegatedRead rfl⟩⟩

/-- Settles O26: in BASE the rows of a tier-2 register end as delegated accesses of its offset, and no CRTC offset is claimed. -/
theorem tierTwoIsDelegatedInBase : Obligations.TierTwoIsDelegatedInBase := by
  refine ⟨fun s r d hv => ⟨?_, ?_⟩, fun p a d hv => ⟨?_, ?_⟩⟩
  · exact answersFromBaseline_of_delegatedRead (exec_crtcRead_base hv r)
  · exact handsRegister_of_delegatedWrite (exec_crtcWrite_base hv r d)
  · exact decode_crtcRead_unclaimed (claims_crtc_of_base hv a) d
  · exact decode_crtcWrite_unclaimed (claims_crtc_of_base hv a) d

/-! The instance (R5, R109). -/

/-- Each effect is built from state operations that write neither the parameters nor the pending list. -/
theorem Effect.sameInstance {i : Instr} {s t : State} (e : Effect s i t) : s.SameInstance t := by
  cases e <;> exact ⟨rfl, rfl⟩

/-- Settles O58: no effect changes the instance, and the step performs its operation with one word off the pending list. -/
theorem noOperationChangesTheInstance : Obligations.NoOperationChangesTheInstance := by
  refine ⟨fun i s t h => (exec_effect h).sameInstance, fun s t hstep => ?_⟩
  obtain ⟨w, rest, i, hpending, -, hexec⟩ := step_next hstep
  obtain ⟨hparams, hrest⟩ := (exec_effect hexec).sameInstance
  exact ⟨hparams, w, by rw [hpending, hrest]⟩

end Sys2Proof.Machine
end

section
/-!
PROOFS. CAPABLE and BASE off tier 2 (R106): a word that does not name a tier-2 offset decodes to the same operation on both instances, and
that operation keeps the two alike: one rule for each state operation, then one case for each way an operation can end.
-/

namespace Sys2Proof

/-! The words that do not name a tier-2 offset. -/

/-- The word is an RR or RW of CRTC 0x29 to 0x3F (R32, R39), the offsets only CAPABLE claims. -/
def NamesTierTwo (w : TransactionWord) : Prop :=
  (kindField w = 1 ∨ kindField w = 2) ∧ spaceField w = 1 ∧ 0x29 ≤ (addrField w).toNat ∧ (addrField w).toNat ≤ 0x3F

theorem namesTierTwo_iff (w : TransactionWord) :
    NamesTierTwo w ↔ (w.toNat / 2 ^ 28 = 1 ∨ w.toNat / 2 ^ 28 = 2) ∧ w.toNat / 2 ^ 24 % 16 = 1 ∧
      0x29 ≤ w.toNat / 2 ^ 8 % 256 ∧ w.toNat / 2 ^ 8 % 256 ≤ 0x3F := by
  rw [NamesTierTwo, kindField_eq, spaceField_eq, addrField_toNat]

/-- Away from tier 2 both variants claim the same offsets (R32). -/
theorem claims_congr_of_not_namesTierTwo {w : TransactionWord} (hk : kindField w = 1 ∨ kindField w = 2) (hw : ¬NamesTierTwo w)
    {space : Space} (hs : parseSpace w = .ok space) (v v' : Variant) :
    claims v space (addrField w) = claims v' space (addrField w) := by
  cases space with
  | gc => rfl
  | crtc =>
    have hout : ¬(0x29 ≤ (addrField w).toNat ∧ (addrField w).toNat ≤ 0x3F) := fun hrange =>
      hw ⟨hk, ((parseSpace_ok_iff w .crtc).mp hs).2, hrange⟩
    rw [claims_crtc_eq_false (.inr hout), claims_crtc_eq_false (.inr hout)]

theorem classifyRead_variant {p : Params} {v : Variant} {space : Space} {a : Byte}
    (h : claims v space a = claims p.variant space a) :
    classifyRead { p with variant := v } space a = classifyRead p space a := by
  cases space <;> simp only [classifyRead, h] <;> rfl

theorem classifyWrite_variant {p : Params} {v : Variant} {space : Space} {a : Byte}
    (h : claims v space a = claims p.variant space a) (d : Byte) :
    classifyWrite { p with variant := v } space a d = classifyWrite p space a d := by
  cases space <;> simp only [classifyWrite, h] <;> rfl

/-- Whether and why a word is refused depends on OFFSET_BITS only (R40). -/
theorem decode_error_iff (p : Params) (w : TransactionWord) (e : DecodeError) :
    decode p w = .error e ↔ parseWord p.offsetBits w = .error e := by
  unfold decode
  cases parseWord p.offsetBits w <;> simp

/-- A word that does not name a tier-2 offset decodes alike on both variants. -/
theorem decode_variant {w : TransactionWord} (hw : ¬NamesTierTwo w) (p : Params) (v : Variant) :
    decode { p with variant := v } w = decode p w := by
  cases hd : decode p w with
  | error e => exact (decode_error_iff _ w e).mpr ((decode_error_iff p w e).mp hd)
  | ok i =>
    have h20 : offsetField w < 2 ^ 20 := (w.extractLsb' 8 20).isLt
    rcases decode_cases hd with ⟨hk, hr, rfl⟩ | ⟨hk, space, hs, rfl⟩ | ⟨hk, space, hs, rfl⟩ | ⟨hk, ho, rfl⟩ | ⟨hk, ho, rfl⟩
    · exact (congrArg (decode _) (eq_zero_of_fields hk hr)).trans (decode_zero _)
    · rw [← classifyRead_variant (claims_congr_of_not_namesTierTwo (.inl hk) hw hs v p.variant), ← decode_readWord]
      exact congrArg (decode _) (eq_regWord_of_fields (kind := 1) hk hs)
    · rw [← classifyWrite_variant (claims_congr_of_not_namesTierTwo (.inr hk) hw hs v p.variant), ← decode_writeWord]
      exact congrArg (decode _) (eq_regWord_of_fields (kind := 2) hk hs)
    · rw [← decode_memReadWord { p with variant := v } (dataField w) h20 ho]
      exact congrArg (decode _) (eq_memWord_of_fields (kind := 3) hk)
    · rw [← decode_memWriteWord { p with variant := v } (dataField w) h20 ho]
      exact congrArg (decode _) (eq_memWord_of_fields (kind := 4) hk)

theorem wf_classifyRead (p : Params) (space : Space) (a : Byte) : (classifyRead p space a).wf p = true := by
  cases hc : claims p.variant space a with
  | false => cases space <;> simp [classifyRead, Instr.wf, hc]
  | true =>
    cases space with
    | gc => simp [classifyRead, hc, wf_gcRead]
    | crtc =>
      obtain ⟨hv, -⟩ := (claims_crtc_iff _ a).mp hc
      simp [classifyRead, hc, (wf_crtcRead_iff p _).mpr hv]

theorem wf_classifyWrite (p : Params) (space : Space) (a d : Byte) : (classifyWrite p space a d).wf p = true := by
  cases hc : claims p.variant space a with
  | false => cases space <;> simp [classifyWrite, Instr.wf, hc]
  | true =>
    cases space with
    | gc => simp [classifyWrite, hc, wf_gcWrite]
    | crtc =>
      obtain ⟨hv, -⟩ := (claims_crtc_iff _ a).mp hc
      simp [classifyWrite, hc, (wf_crtcWrite_iff p _ d).mpr hv]

/-- On any map, legal or not, a word decodes to an operation of the instance only (R43, R45). -/
theorem wf_of_decode {p : Params} {w : TransactionWord} {i : Instr} (h : decode p w = .ok i) : i.wf p = true := by
  rcases decode_cases h with ⟨-, -, rfl⟩ | ⟨-, space, -, rfl⟩ | ⟨-, space, -, rfl⟩ | ⟨-, ho, rfl⟩ | ⟨-, ho, rfl⟩
  · rfl
  · exact wf_classifyRead p space _
  · exact wf_classifyWrite p space _ _
  · exact decide_eq_true ho
  · exact decide_eq_true ho

end Sys2Proof

namespace Sys2Proof.Machine

/-! What two alike instances share. -/

/-- The block with the tier-2 fields of another. -/
def Block.withTierTwoOf (b other : Block) : Block :=
  { b with gate2 := other.gate2, t2sb := other.t2sb, scratch := other.scratch }

theorem gcReadback_withTierTwoOf (mask : Byte) (b other : Block) (r : GcReg) :
    gcReadback mask (b.withTierTwoOf other) r = gcReadback mask b r := by
  cases r <;> rfl

theorem gcWritten_withTierTwoOf (b other : Block) (r : GcReg) (d : Byte) :
    gcWritten (b.withTierTwoOf other) r d = (gcWritten b r d).withTierTwoOf (gcWritten (b.withTierTwoOf other) r d) := by
  cases r <;> rfl

theorem VariantsAlike.params_eq {c b : State} (h : VariantsAlike c b) : b.params = { c.params with variant := .base } := by
  obtain ⟨-, hparams, -⟩ := h
  exact hparams

theorem VariantsAlike.variant_eq {c b : State} (h : VariantsAlike c b) : b.params.variant = .base := by
  rw [h.params_eq]

theorem VariantsAlike.pending_eq {c b : State} (h : VariantsAlike c b) : b.pending = c.pending := by
  obtain ⟨-, -, -, -, -, -, -, -, hpending⟩ := h
  exact hpending

theorem VariantsAlike.block_eq {c b : State} (h : VariantsAlike c b) : b.block = c.block.withTierTwoOf b.block := by
  obtain ⟨-, -, hblock, -⟩ := h
  exact hblock

theorem VariantsAlike.gate1_eq {c b : State} (h : VariantsAlike c b) : b.block.gate1 = c.block.gate1 := by
  rw [h.block_eq]; rfl

theorem VariantsAlike.translate_eq {c b : State} (h : VariantsAlike c b) (off : Nat) :
    b.block.translate off = c.block.translate off := by
  rw [h.block_eq]; rfl

theorem VariantsAlike.gcReadback_eq {c b : State} (h : VariantsAlike c b) (r : GcReg) :
    gcReadback b.params.aoffbMask b.block r = gcReadback c.params.aoffbMask c.block r := by
  rw [h.block_eq, gcReadback_withTierTwoOf, h.params_eq]

theorem VariantsAlike.memReadValue_eq {c b : State} (h : VariantsAlike c b) (ea : Nat) : b.memReadValue ea = c.memReadValue ea := by
  obtain ⟨-, hparams, hblock, hmem, -, -, hcalls, -⟩ := h
  unfold State.memReadValue State.memByte
  rw [hparams, hblock, hmem, hcalls]

theorem VariantsAlike.baseReadValue_eq {c b : State} (h : VariantsAlike c b) (space : Space) (a : Byte) :
    b.baseReadValue space a = c.baseReadValue space a := by
  obtain ⟨-, hparams, hblock, -, hgc, hcrtc, hcalls, -⟩ := h
  unfold State.baseReadValue State.baseByte
  rw [hparams, hblock, hgc, hcrtc, hcalls]

/-! One rule for each state operation. -/

theorem VariantsAlike.answer {c b : State} (h : VariantsAlike c b) {v v' : Byte} (hv : v' = v) :
    VariantsAlike (c.answer v) (b.answer v') := by
  obtain ⟨hvar, hparams, hblock, hmem, hgc, hcrtc, hcalls, hret, hpending⟩ := h
  exact ⟨hvar, hparams, hblock, hmem, hgc, hcrtc, hcalls, by simp [hret, hv], hpending⟩

theorem VariantsAlike.called {c b : State} (h : VariantsAlike c b) (call : BaselineCall) :
    VariantsAlike (c.called call) (b.called call) := by
  obtain ⟨hvar, hparams, hblock, hmem, hgc, hcrtc, hcalls, hret, hpending⟩ := h
  exact ⟨hvar, hparams, hblock, hmem, hgc, hcrtc, by simp [hcalls], hret, hpending⟩

/-- The relation leaves the sink out, so the two notices may even differ (R73). -/
theorem VariantsAlike.notify {c b : State} (h : VariantsAlike c b) (n m : Notice) :
    VariantsAlike (c.notify n) (b.notify m) := h

theorem VariantsAlike.setBlock {c b : State} (h : VariantsAlike c b) {bc bb : Block} (hb : bb = bc.withTierTwoOf bb) :
    VariantsAlike (c.setBlock bc) (b.setBlock bb) := by
  obtain ⟨hvar, hparams, -, hstores⟩ := h
  exact ⟨hvar, hparams, hb, hstores⟩

theorem VariantsAlike.setPending {c b : State} (h : VariantsAlike c b) (ws : List TransactionWord) :
    VariantsAlike { c with pending := ws } { b with pending := ws } := by
  obtain ⟨hvar, hparams, hblock, hmem, hgc, hcrtc, hcalls, hret, -⟩ := h
  exact ⟨hvar, hparams, hblock, hmem, hgc, hcrtc, hcalls, hret, rfl⟩

theorem VariantsAlike.setMemByte {c b : State} (h : VariantsAlike c b) (ea : Nat) (v : Byte) :
    VariantsAlike (c.setMemByte ea v) (b.setMemByte ea v) := by
  obtain ⟨hvar, hparams, hblock, hmem, hrest⟩ := h
  exact ⟨hvar, hparams, hblock, by simp [hmem], hrest⟩

theorem VariantsAlike.setBaseByte {c b : State} (h : VariantsAlike c b) (space : Space) (a v : Byte) :
    VariantsAlike (c.setBaseByte space a v) (b.setBaseByte space a v) := by
  obtain ⟨hvar, hparams, hblock, hmem, hgc, hcrtc, hrest⟩ := h
  cases space with
  | gc => exact ⟨hvar, hparams, hblock, hmem, by simp [hgc], hcrtc, hrest⟩
  | crtc => exact ⟨hvar, hparams, hblock, hmem, hgc, by simp [hcrtc], hrest⟩

/-! The shared operations built from them. -/

theorem VariantsAlike.delegatedRead {c b : State} (h : VariantsAlike c b) (space : Space) (a : Byte) :
    VariantsAlike (delegatedRead space a c) (delegatedRead space a b) :=
  (h.called _).answer (h.baseReadValue_eq space a)

theorem VariantsAlike.delegatedWrite {c b : State} (h : VariantsAlike c b) (space : Space) (a d : Byte) :
    VariantsAlike (delegatedWrite space a d c) (delegatedWrite space a d b) :=
  (h.setBaseByte space a d).called _

theorem VariantsAlike.windowRead {c b : State} (h : VariantsAlike c b) (off : Nat) :
    VariantsAlike (windowRead off c) (windowRead off b) := by
  unfold Machine.windowRead
  rw [h.translate_eq]
  exact (h.called _).answer (h.memReadValue_eq _)

theorem VariantsAlike.windowWrite {c b : State} (h : VariantsAlike c b) (off : Nat) (d : Byte) :
    VariantsAlike (windowWrite off d c) (windowWrite off d b) := by
  unfold Machine.windowWrite
  rw [h.translate_eq]
  exact (h.setMemByte _ d).called _

theorem VariantsAlike.gcWrite {c b : State} (h : VariantsAlike c b) (r : GcReg) (d : Byte) :
    VariantsAlike (c.setBlock (gcWritten c.block r d)) (b.setBlock (gcWritten b.block r d)) :=
  h.setBlock (by rw [h.block_eq]; exact gcWritten_withTierTwoOf c.block b.block r d)

/-! Every operation of the BASE instance, and so every step and every run. -/

/-- An operation of the BASE instance is no tier-2 row; each of the others ends the same way on both, by GATE1 where it is guarded. -/
theorem VariantsAlike.exec_agrees {c b c' : State} {i : Instr} (h : VariantsAlike c b) (hi : i.wf b.params = true)
    (e : Effect c i c') : ∃ b', exec i b = .next b' ∧ VariantsAlike c' b' := by
  have noTierTwo : b.params.variant ≠ .capable := by simp [h.variant_eq]
  cases e with
  | gcReadLocked r hr hg => exact ⟨_, exec_gcRead_locked (h.gate1_eq.trans hg) hr, (h.notify _ _).answer rfl⟩
  | gcRead r hr hg => exact ⟨_, exec_gcRead_unlocked (h.gate1_eq.trans hg) hr, h.answer (h.gcReadback_eq r)⟩
  | gcWriteLocked r d hr hg => exact ⟨_, exec_gcWrite_locked (h.gate1_eq.trans hg) hr d, h.notify _ _⟩
  | gcWrite r d hr hg => exact ⟨_, exec_gcWrite_unlocked (h.gate1_eq.trans hg) hr d, (h.gcWrite r d).notify _ _⟩
  | status1Read => exact ⟨_, exec_status1Read b, h.answer (congrArg lockCode h.gate1_eq)⟩
  | status1Write d => exact ⟨_, exec_status1Write b d, ((h.gcWrite .status1 d).notify _ _).notify _ _⟩
  | crtcReadInert r | crtcReadBase r => exact absurd ((wf_crtcRead_iff _ r).mp hi) noTierTwo
  | crtcWriteInert r d | crtcWriteBase r d => exact absurd ((wf_crtcWrite_iff _ r d).mp hi) noTierTwo
  | scratchRead => exact absurd ((wf_crtcRead_iff _ .scratch).mp hi) noTierTwo
  | scratchWrite d => exact absurd ((wf_crtcWrite_iff _ .scratch d).mp hi) noTierTwo
  | status2Read => exact absurd ((wf_crtcRead_iff _ .status2).mp hi) noTierTwo
  | status2Write d => exact absurd ((wf_crtcWrite_iff _ .status2 d).mp hi) noTierTwo
  | gcBaseRead | crtcBaseRead => exact ⟨_, rfl, h.delegatedRead _ _⟩
  | gcBaseWrite | crtcBaseWrite => exact ⟨_, rfl, h.delegatedWrite _ _ _⟩
  | mr off => exact ⟨_, exec_mr off b, h.windowRead off⟩
  | mw off d => exact ⟨_, exec_mw off d b, h.windowWrite off d⟩
  | reset => exact ⟨_, rfl, h.setBlock rfl⟩

/-- One step of both instances, when no pending word names a tier-2 offset: both go on, or both are refused for the same reason. -/
theorem VariantsAlike.step_agrees {c b : State} (h : VariantsAlike c b) (hw : ∀ w ∈ c.pending, ¬NamesTierTwo w) :
    (∃ c' b', step c = .next c' ∧ step b = .next b' ∧ VariantsAlike c' b') ∨
      ∃ r, step c = .refused r ∧ step b = .refused r := by
  cases hp : c.pending with
  | nil => exact .inr ⟨_, step_of_nil hp, step_of_nil (h.pending_eq.trans hp)⟩
  | cons w rest =>
    have hp' : b.pending = w :: rest := h.pending_eq.trans hp
    have hdecode : decode b.params w = decode c.params w := by
      rw [h.params_eq]
      exact decode_variant (hw w (by simp [hp])) _ _
    cases hd : decode c.params w with
    | error e => exact .inr ⟨_, step_of_decode_error hp hd, step_of_decode_error hp' (hdecode.trans hd)⟩
    | ok i =>
      obtain ⟨c', hc'⟩ := exec_completes i { c with pending := rest }
      obtain ⟨b', hb', halike⟩ := (h.setPending rest).exec_agrees (wf_of_decode (hdecode.trans hd)) (exec_effect hc')
      exact .inl ⟨c', b', (step_of_decode_ok hp hd).trans hc', (step_of_decode_ok hp' (hdecode.trans hd)).trans hb', halike⟩

/-- Settles O59: a step keeps the instances alike or refuses both, and takes its word off a pending list that names no tier-2 offset. -/
theorem baseAndCapableAgreeOffTierTwo : Obligations.BaseAndCapableAgreeOffTierTwo := by
  intro n
  simp only [← namesTierTwo_iff]
  induction n with
  | zero => exact fun c b h _ => .inl ⟨c, b, rfl, rfl, h⟩
  | succ n ih =>
    intro c b h hw
    rcases h.step_agrees hw with ⟨c', b', hc, hb, halike⟩ | ⟨r, hc, hb⟩
    · rw [core_run_of_next n hc, core_run_of_next n hb]
      obtain ⟨-, w, hpending⟩ := noOperationChangesTheInstance.2 c c' hc
      exact ih c' b' halike fun w' hw' => hw w' (by simp [hpending, hw'])
    · exact .inr ⟨r, core_run_of_refused n hc, core_run_of_refused n hb⟩

end Sys2Proof.Machine
end

section
/-!
PROOFS. The diagnostic sink is advisory (R112): an operation or a step under another trace leaves the state it would have left, but for the
trace and the counter.
-/

namespace Sys2Proof.Machine

/-- Giving a state back its own trace and counter undoes their replacement. -/
@[simp] theorem State.withSink_withSink_self (s : State) (ns : List Notice) (k : Nat) :
    (s.withSink ns k).withSink s.notices s.offered = s := rfl

/-- What an operation leaves under any other trace and counter differs in those two alone. -/
theorem exec_withSink {i : Instr} {s t : State} (h : exec i s = .next t) (ns : List Notice) (k : Nat) :
    ∃ u, exec i (s.withSink ns k) = .next u ∧ u.withSink t.notices t.offered = t := by
  obtain ⟨ns', k', hu⟩ := (exec_effect h).withSink ns k
  exact ⟨t.withSink ns' k', hu, t.withSink_withSink_self ns' k'⟩

/-- A step under another trace and counter takes the same word, so it performs the same operation. -/
theorem step_withSink {s t : State} (h : step s = .next t) (ns : List Notice) (k : Nat) :
    ∃ u, step (s.withSink ns k) = .next u ∧ u.withSink t.notices t.offered = t := by
  obtain ⟨w, rest, i, hpending, hdecode, hexec⟩ := step_next h
  obtain ⟨u, hu, hrestored⟩ := exec_withSink hexec ns k
  have hstep : step (s.withSink ns k) = exec i (({ s with pending := rest } : State).withSink ns k) :=
    step_of_decode_ok hpending hdecode
  exact ⟨u, hstep.trans hu, hrestored⟩

/-- Settles O30: neither the operation nor the decoding before it reads the sink. -/
theorem sinkNeverAffectsBehaviour : Obligations.SinkNeverAffectsBehaviour :=
  fun _ ns k => ⟨fun _ _ h => exec_withSink h ns k, fun _ h => step_withSink h ns k⟩

end Sys2Proof.Machine
end

section
/-!
PROOFS. A run of the machine performs the list its pending words encode (R28, R136): an operation never looks at what is still pending, so
performing it with the rest of the words queued behind it is performing it with none.
-/

namespace Sys2Proof.Machine

/-- The state with other operations still to come. -/
def State.withPending (s : State) (ws : List TransactionWord) : State := { s with pending := ws }

/-- Each effect carries along whatever is pending. -/
theorem Effect.withPending {i : Instr} {s t : State} (e : Effect s i t) (ws : List TransactionWord) :
    exec i (s.withPending ws) = .next (t.withPending ws) := by
  cases e with
  | gcReadLocked r hr h => exact exec_gcRead_locked (s := s.withPending ws) h hr
  | gcRead r hr h => exact exec_gcRead_unlocked (s := s.withPending ws) h hr
  | gcWriteLocked r d hr h => exact exec_gcWrite_locked (s := s.withPending ws) h hr d
  | gcWrite r d hr h => exact exec_gcWrite_unlocked (s := s.withPending ws) h hr d
  | status1Read => exact exec_status1Read (s.withPending ws)
  | status1Write d => exact exec_status1Write (s.withPending ws) d
  | crtcReadInert r hr hv h =>
    rcases h with hlocked | hres
    · exact exec_crtcRead_locked (s := s.withPending ws) hv hlocked hr
    · exact exec_reservedRead (s := s.withPending ws) hv hres
  | crtcWriteInert r d hr hv h =>
    rcases h with hlocked | hres
    · exact exec_crtcWrite_locked (s := s.withPending ws) hv hlocked hr d
    · exact exec_reservedWrite (s := s.withPending ws) hv hres d
  | scratchRead hv h => exact exec_scratchRead_unlocked (s := s.withPending ws) hv h
  | scratchWrite d hv h => exact exec_scratchWrite_unlocked (s := s.withPending ws) hv h d
  | status2Read hv => exact exec_status2Read (s := s.withPending ws) hv
  | status2Write d hv => exact exec_status2Write (s := s.withPending ws) hv d
  | crtcReadBase r hv => exact exec_crtcRead_base (s := s.withPending ws) hv r
  | crtcWriteBase r d hv => exact exec_crtcWrite_base (s := s.withPending ws) hv r d
  | gcBaseRead | gcBaseWrite | crtcBaseRead | crtcBaseWrite | mr | mw | reset => rfl

/-- A list of operations completes alike whatever is pending. -/
theorem runAll_withPending {is : List Instr} {s t : State} (h : runAll is s = .next t) (ws : List TransactionWord) :
    runAll is (s.withPending ws) = .next (t.withPending ws) := by
  induction is generalizing s with
  | nil =>
    cases h
    rfl
  | cons i is ih =>
    obtain ⟨u, hu⟩ := exec_completes i s
    simp only [runAll, hu] at h
    simpa only [runAll, (exec_effect hu).withPending ws] using ih h

/-- With the word of an operation of the instance at the head, a step performs that operation and leaves the rest pending (R28, R39). -/
theorem step_encode_cons {i : Instr} {s u : State} (hp : s.params.wf = true) (hi : i.wf s.params = true) (h : exec i s = .next u)
    (ws : List TransactionWord) : step (s.withPending (encode s.params i :: ws)) = .next (u.withPending ws) :=
  have hdecode := encodedOperationsDecodeToThemselves s.params i hp hi
  (step_of_decode_ok (s := s.withPending _) rfl hdecode).trans ((exec_effect h).withPending ws)

/-- As many steps as the list is long, over its words, reach what the list reaches, with nothing pending. -/
theorem core_run_encoded {is : List Instr} {s t : State} (hp : s.params.wf = true) (his : ∀ i ∈ is, i.wf s.params = true)
    (h : runAll is s = .next t) :
    Host.Core.run Sys2Proof.core is.length (s.withPending (is.map (encode s.params))) = .next (t.withPending []) := by
  induction is generalizing s with
  | nil =>
    cases h
    rfl
  | cons i is ih =>
    obtain ⟨u, hu⟩ := exec_completes i s
    obtain ⟨hi, hrest⟩ := List.forall_mem_cons.mp his
    obtain ⟨hparams, -⟩ := (exec_effect hu).sameInstance
    simp only [runAll, hu] at h
    have hstep := step_encode_cons hp hi hu (is.map (encode s.params))
    calc Host.Core.run Sys2Proof.core (is.length + 1) (s.withPending (encode s.params i :: is.map (encode s.params)))
        = Host.Core.run Sys2Proof.core is.length (u.withPending (is.map (encode s.params))) := core_run_of_next _ hstep
      _ = .next (t.withPending []) := by
        rw [← hparams] at hp hrest ⊢
        exact ih hp hrest h

/-- Settles O8, by induction on the list: each step decodes the word of the list's head back to the head and performs it. -/
theorem runPerformsTheListHeadFirst : Obligations.RunPerformsTheListHeadFirst := by
  intro is s hp his
  obtain ⟨t, ht⟩ := runAll_completes is s
  exact ⟨t.withPending [], runAll_withPending ht [], core_run_encoded hp his ht, rfl, step_of_nil rfl⟩

end Sys2Proof.Machine
end

section
/-!
PROOFS. The reference baseline (R138): what it reads is the byte it was last handed, so a write through the block is read back.
-/

namespace Sys2Proof.Machine

/-! What the reference baseline reads. -/

theorem State.memReadValue_of_reference {s : State} (h : s.params.baseline = .reference) {ea : Nat} (hea : ea < 2 ^ 20) :
    s.memReadValue ea = s.memByte ea := by
  simp only [State.memReadValue, h]
  exact if_pos hea

theorem State.baseReadValue_of_reference {s : State} (h : s.params.baseline = .reference) (space : Space) (a : Byte) :
    s.baseReadValue space a = s.baseByte space a := by
  simp only [State.baseReadValue, h]

/-! Accesses of the baseline as parts of a run. -/

/-- A read through the baseline, as a run of its own. -/
theorem AnswersFromBaseline.run {i : Instr} {s : State} {c : BaselineCall} {v : Byte} (h : AnswersFromBaseline i s c v) :
    RunReturns [i] s [v] s.block := by
  obtain ⟨t, hexec, hret, hblock, -⟩ := h
  exact .single hexec hret hblock

/-- A memory write through the baseline, ahead of a run from the store it leaves. -/
theorem HandsMemory.cons_run {i : Instr} {s : State} {ea : Nat} {d : Byte} (h : HandsMemory i s ea d) (hinv : s.Inv)
    {is : List Instr} {vs : List Byte} {b : Block}
    (hrest : ∀ t : State, t.params = s.params → t.block = s.block → t.memByte ea = d →
      (∀ a, a ≠ ea → t.memByte a = s.memByte a) → RunReturns is t vs b) : RunReturns (i :: is) s vs b := by
  obtain ⟨t, hexec, hret, hblock, -, hkept, hother, -, ⟨hparams, -⟩, -⟩ := h
  exact .cons_silent hexec hret (hrest t hparams hblock (hkept hinv) hother)

/-- A register write through the baseline, ahead of a run from the register it leaves. -/
theorem HandsRegister.cons_run {i : Instr} {s : State} {space : Space} {a d : Byte} (h : HandsRegister i s space a d) (hinv : s.Inv)
    {is : List Instr} {vs : List Byte} {b : Block}
    (hrest : ∀ t : State, t.params = s.params → t.block = s.block → t.baseByte space a = d → RunReturns is t vs b) :
    RunReturns (i :: is) s vs b := by
  obtain ⟨t, hexec, hret, hblock, -, hkept, -, -, ⟨hparams, -⟩, -⟩ := h
  exact .cons_silent hexec hret (hrest t hparams hblock (hkept hinv))

/-- On the reference baseline an MR inside the array returns the byte kept there. -/
theorem runReturns_mr_of_reference {s : State} (href : s.params.baseline = .reference) {off : Nat}
    (hea : s.block.translate off < 2 ^ 20) : RunReturns [.mr off] s [s.memByte (s.block.translate off)] s.block := by
  rw [← State.memReadValue_of_reference href hea]
  exact (answersFromBaseline_mr s off).run

/-- On the reference baseline a delegated write and a delegated read of one offset return the byte written. -/
theorem runReturns_delegated_of_reference {s : State} (hinv : s.Inv) (href : s.params.baseline = .reference) {w r : Instr}
    {space : Space} {a d : Byte} (hw : exec w s = .next (delegatedWrite space a d s))
    (hr : ∀ t, exec r t = .next (delegatedRead space a t)) : RunReturns [w, r] s [d] s.block := by
  refine (handsRegister_of_delegatedWrite hw).cons_run hinv fun t hparams hblock hkept => ?_
  have hread : t.baseReadValue space a = d := (State.baseReadValue_of_reference (hparams ▸ href) space a).trans hkept
  rw [← hread, ← hblock]
  exact (answersFromBaseline_of_delegatedRead (hr t)).run

/-- Settles O52: a read returns the byte kept at its address, which the write before it put there or left alone. -/
theorem referenceBaselineReadsBackWhatWasWritten : Obligations.ReferenceBaselineReadsBackWhatWasWritten := by
  refine fun s off off' a d hinv href => ⟨fun hea => ?_, fun hea hne => ⟨?_, runReturns_mr_of_reference href hea⟩,
    runReturns_delegated_of_reference hinv href rfl fun _ => rfl, runReturns_delegated_of_reference hinv href rfl fun _ => rfl⟩
  · refine (handsMemory_mw s off d).cons_run hinv fun t hparams hblock hkept _ => ?_
    rw [← hblock] at hkept hea ⊢
    rw [← hkept]
    exact runReturns_mr_of_reference (hparams ▸ href) hea
  · refine (handsMemory_mw s off d).cons_run hinv fun t hparams hblock _ hother => ?_
    rw [← hother _ hne]
    rw [← hblock] at hea ⊢
    exact runReturns_mr_of_reference (hparams ▸ href) hea

end Sys2Proof.Machine
end

section
/-!
PROOFS. RESET and the state a machine starts in (R125, R127, R128), and what the bus reads after it, before and behind the gates.
-/

namespace Sys2Proof.Machine

/-- An operation that only replaces the block completes inside the block. -/
theorem storesInside_of_setBlock {i : Instr} {s : State} {b : Block} (h : exec i s = .next (s.setBlock b)) : StoresInside i s b [] :=
  ⟨_, h, rfl, rfl, rfl, s.sameBytes_refl, ⟨rfl, rfl⟩, State.offered_nil rfl rfl⟩

/-- Settles O53: RESET replaces the block, which holds every field it restores. -/
theorem resetOperationRestoresEveryField : Obligations.ResetOperationRestoresEveryField :=
  fun _ => storesInside_of_setBlock rfl

/-- Settles O54: each field of the state is the literal the statement gives. -/
theorem machineStartsInTheResetState : Obligations.MachineStartsInTheResetState :=
  ⟨rfl, rfl, rfl, rfl, rfl, rfl, rfl, rfl, rfl, rfl, rfl, rfl, rfl, rfl, rfl⟩

/-- Unlocked tier-1 reads, one after another, return the readback of each register and leave the block as it was (R41, R66). -/
theorem runReturns_gcReads {s : State} (hg : s.block.gate1 = true) {rs : List GcReg} (hrs : ∀ r ∈ rs, r ≠ .status1) :
    RunReturns (rs.map GcReg.readInstr) s (rs.map (gcReadback s.params.aoffbMask s.block)) s.block := by
  induction rs generalizing s with
  | nil => exact .nil s
  | cons r rs ih =>
    obtain ⟨hr, hrest⟩ := List.forall_mem_cons.mp hrs
    exact .cons_gcRead hg hr (ih (s := s.answer _) hg hrest)

/-- The six guarded tier-1 registers, read behind the open view from the block of RESET: AOFFB_MASK keeps no bit of zero (R127; D6). -/
theorem runReturns_gcReads_after_reset {s : State} (hb : s.block = { blockAfterReset with gate1 := true }) :
    RunReturns [.rrMemsize, .rrAoffa, .rrAoffb, .rrVsel, .rrCrtclock, .rrVctl] s [0xC0, 0x00, 0x00, 0x00, 0x00, 0x00] s.block := by
  have hreads := runReturns_gcReads (s := s) (by rw [hb]) (rs := [.memsize, .aoffa, .aoffb, .vsel, .crtclock, .vctl]) (by decide)
  simpa [hb, gcReadback, blockAfterReset, GcReg.readInstr] using hreads

/-- A locked tier-1 status register reads 0x00 (R52, R56). -/
theorem answersInside_status1Read_locked {s : State} (hg : s.block.gate1 = false) : AnswersInside .rrStatus1 s 0x00 [] := by
  have hread := answersInside_of_answer (exec_status1Read s)
  rwa [hg] at hread

/-- The tier-2 status register reads 0x00 while its tier is locked and no scratch bit is set (R52, R58). -/
theorem answersInside_status2Read_clear {s : State} (hv : s.params.variant = .capable) (hg : s.block.gate2 = false)
    (ht : s.block.t2sb = 0x00) : AnswersInside .rrStatus2 s 0x00 [] := by
  have hread := answersInside_of_answer (exec_status2Read hv)
  rwa [hg, ht] at hread

/-- Settles O55: RESET locks both tiers, so a read before the status write is the stub's; behind the open view the registers are the
reset block's. -/
theorem resetIsSeenOnTheBusAfterUnlocking : Obligations.ResetIsSeenOnTheBusAfterUnlocking := by
  refine fun s c hc => ⟨⟨{ blockAfterReset with gate1 := true }, ?_⟩, fun hv => ⟨{ blockAfterReset with gate2 := true }, ?_⟩⟩
  · refine (resetOperationRestoresEveryField s).cons_run fun s₁ _ hb₁ => ?_
    refine (answersInside_status1Read_locked (by rw [hb₁])).cons_run fun s₂ _ hb₂ => ?_
    have hlocked : s₂.block.gate1 = false := by rw [hb₂, hb₁]
    refine ((lockedReadsReturnTheSentinel s₂).1 hlocked .memsize (by decide)).cons_run fun s₃ _ hb₃ => ?_
    refine .cons_status1Write c fun s₄ _ hb₄ => ?_
    have hblock : s₄.block = { blockAfterReset with gate1 := true } := by
      rw [hb₄, hb₃, hb₂, hb₁, decide_eq_true hc]
      rfl
    exact hblock ▸ runReturns_gcReads_after_reset hblock
  · refine (resetOperationRestoresEveryField s).cons_run fun s₁ hp₁ hb₁ => ?_
    have hv₁ : s₁.params.variant = .capable := hp₁ ▸ hv
    refine (answersInside_status2Read_clear hv₁ (by rw [hb₁]) (by rw [hb₁])).cons_run fun s₂ hp₂ hb₂ => ?_
    have hv₂ : s₂.params.variant = .capable := hp₂ ▸ hv₁
    have hlocked : s₂.block.gate2 = false := by rw [hb₂, hb₁]
    refine ((lockedReadsReturnTheSentinel s₂).2 hv₂ hlocked .scratch (by decide)).cons_run fun s₃ hp₃ hb₃ => ?_
    refine .cons_status2Write (hp₃ ▸ hv₂) 0x05 fun s₄ hv₄ hb₄ => ?_
    have hblock : s₄.block = { blockAfterReset with gate2 := true } := by
      rw [hb₄, hb₃, hb₂, hb₁]
      rfl
    have hread := runReturns_scratchRead hv₄
    rw [hblock] at hread
    exact hread

end Sys2Proof.Machine
end

section
/-!
PROOFS. What a status register reports (R52, R56, R58) and what a status write leaves it to report; the scratch register behind the open
view (R89, R90); the writes that store nothing in the block: of reserved offsets (R69) and of unclaimed ones (R71).
-/

namespace Sys2Proof

/-- A write word of an unclaimed GC offset is the delegated write (R42, case 7). -/
theorem decode_gcWrite_unclaimed {p : Params} {a : Byte} (h : claims p.variant .gc a = false) (d : Byte) :
    decode p (regWord 2 .gc a d) = .ok (.rwGcBase a d) :=
  (decode_writeWord p .gc a d).trans (by simp [classifyWrite, h])

end Sys2Proof

namespace Sys2Proof.Machine

/-! The tier-2 status byte (R52, R58). -/

/-- Scratch bits, which the invariant keeps within bits 6 to 4, share no bit with the mask `0x8A`, and neither does the lock code. -/
theorem status2_unused_bits {x : Byte} (h : x &&& 0x70 = x) (g : Bool) : (x ||| lockCode g) &&& 0x8A = 0x00 := by
  have hscratch : x &&& 0x8A = 0x00 := by
    rw [← h, BitVec.and_assoc]
    exact BitVec.and_zero
  have hcode : lockCode g &&& 0x8A = 0x00 := by cases g <;> decide
  rw [BitVec.and_or_distrib_right, hscratch, hcode]
  rfl

/-- A bit that the scratch bits leave alone and the lock code repeats is the gate. -/
theorem status2_gate_bit {x : Byte} (h : x &&& 0x70 = x) (g : Bool) {k : Nat} (hk : k = 2 ∨ k = 0) :
    (x ||| lockCode g).getLsbD k = g := by
  have hscratch : x.getLsbD k = false := by
    rw [← h, BitVec.getLsbD_and]
    rcases hk with rfl | rfl <;> exact Bool.and_false _
  have hcode : (lockCode g).getLsbD k = g := by
    rcases hk with rfl | rfl <;> cases g <;> decide
  rw [BitVec.getLsbD_or, hscratch, hcode, Bool.false_or]

/-- Settles O12: the write replaces GATE2 and T2SB and offers its two notices. -/
theorem statusTwoWriteDrivesGateTwoAndScratchBits : Obligations.StatusTwoWriteDrivesGateTwoAndScratchBits :=
  fun _ d hv => storesInside_of_setBlock_notify_notify (exec_status2Write hv d)

/-- Settles O13: the read hands back the scratch bits and the lock code, whose bits lie apart. -/
theorem statusTwoReadReportsGateTwoAndScratchBits : Obligations.StatusTwoReadReportsGateTwoAndScratchBits := by
  refine fun s hv => ⟨answersInside_of_answer (exec_status2Read hv), fun hinv => ⟨?_, ?_, ?_⟩⟩
  · exact status2_unused_bits hinv.t2sb_masked s.block.gate2
  · exact status2_gate_bit hinv.t2sb_masked s.block.gate2 (.inl rfl)
  · exact status2_gate_bit hinv.t2sb_masked s.block.gate2 (.inr rfl)

/-! A status write, then a status read (E1). -/

theorem runReturns_status1Write_status1Read (s : State) (c : Byte) :
    RunReturns [.rwStatus1 c, .rrStatus1] s [lockCode (decide (c &&& 0x07 = 0x05))]
      { s.block with gate1 := decide (c &&& 0x07 = 0x05) } := by
  refine .cons_status1Write c fun t _ hb => .single (exec_status1Read t) ?_ hb
  rw [hb]
  rfl

theorem runReturns_status2Write_status2Read {s : State} (hv : s.params.variant = .capable) (c : Byte) :
    RunReturns [.rwStatus2 c, .rrStatus2] s [(c &&& 0x70) ||| lockCode (decide (c &&& 0x07 = 0x05))]
      { s.block with gate2 := decide (c &&& 0x07 = 0x05), t2sb := c &&& 0x70 } := by
  refine .cons_status2Write hv c fun t ht hb => .single (exec_status2Read ht) ?_ hb
  rw [hb]
  rfl

theorem lockCode_decide (q : Prop) [Decidable q] : lockCode (decide q) = if q then 0x05 else 0x00 := by
  simp only [lockCode, decide_eq_true_eq]

/-- The status byte, by whether the tier is unlocked (R58). -/
theorem or_lockCode_decide (x : Byte) (q : Prop) [Decidable q] : x ||| lockCode (decide q) = if q then x ||| 0x05 else x := by
  by_cases hq : q <;> simp [lockCode, hq]

/-- Settles O14: each status register reports the gate its own write has just set, tier 2 over the scratch bits of the same code. -/
theorem statusWriteThenStatusReadReportsTheCode : Obligations.StatusWriteThenStatusReadReportsTheCode := by
  refine fun s c => ⟨?_, fun hv => ?_⟩
  · rw [← lockCode_decide]
    exact runReturns_status1Write_status1Read s c
  · rw [← or_lockCode_decide]
    exact runReturns_status2Write_status2Read hv c

/-! SCRATCH, and the writes that store nothing in the block. -/

/-- Settles O38: behind the open view the write stores the byte and the read hands it back. -/
theorem scratchIsAPlainByteStore : Obligations.ScratchIsAPlainByteStore :=
  fun _ d hv hg => ⟨storesInside_of_setBlock_notify (exec_scratchWrite_unlocked hv hg d),
    answersInside_of_answer (exec_scratchRead_unlocked hv hg)⟩

/-- Settles O23: the write of a reserved offset only offers its notice, so the read after it is a reserved read from the same block. -/
theorem reservedWritesAreDiscarded : Obligations.ReservedWritesAreDiscarded := by
  intro s r d hv hr
  have hwrite := storesInside_of_notify (exec_reservedWrite hv hr d)
  exact ⟨hwrite, hwrite.cons_run fun t hp hb => hb ▸ runReturns_reservedRead (hp ▸ hv) hr⟩

/-- Settles O25: outside the claimed offsets the decoder gives the delegated write, and that hands its byte to the baseline. -/
theorem unclaimedWritesAreDelegated : Obligations.UnclaimedWritesAreDelegated :=
  ⟨fun _ _ d h => decode_gcWrite_unclaimed (claims_gc_eq_false h) d,
    fun _ _ d h => decode_crtcWrite_unclaimed (claims_crtc_eq_false h) d,
    fun _ _ _ => ⟨handsRegister_of_delegatedWrite rfl, handsRegister_of_delegatedWrite rfl⟩⟩

end Sys2Proof.Machine
end
